-- ==== Sys2Proof/Word.lean ====
section
/-! DEFINITION. The plain bit-vector types of the Torrent ISA: 32-bit registers, elements and addresses
(spec 00_scope.md R7, R11), bytes (20_memory.md R60), and the 5-bit register numbers of instruction
words (30_encoding.md R99). -/

namespace Sys2Proof

/-- A scalar register, a vector element, an address or an instruction word: 32 bits (R7, R11, R90). -/
abbrev Word := BitVec 32

/-- A byte of memory (R60). -/
abbrev Byte := BitVec 8

/-- The number of a scalar register, `$0` to `$31` (R20, R21). -/
abbrev Reg := BitVec 5

/-- A vector register specifier, 0 to 31 whatever `NVREG` is (R29). -/
abbrev VReg := BitVec 5

/-- The number of a VU control register (R31). -/
abbrev CReg := BitVec 5

/-- `trunc_32` of R11: the 32-bit vector congruent to a mathematical integer modulo 2^32. -/
abbrev trunc32 (z : Int) : Word := BitVec.ofInt 32 z

/-- Whether a mathematical integer is a signed 32-bit value (R182, R335). -/
abbrev fitsSigned32 (z : Int) : Bool := decide (-(2 ^ 31 : Int) ≤ z) && decide (z ≤ 2 ^ 31 - 1)

end Sys2Proof
end

