-- ==== Sys2Proof/Config.lean ====
section
/-! DEFINITION. What an implementation of the Torrent ISA fixes (spec 00_scope.md R7) and the free values
of what the spec leaves open. A value of `Config` is held by the state and changed by no instruction, so a
theorem about every state holds for every value of every parameter. -/

namespace Sys2Proof

/-- `MVL`, the number of elements of a vector register; the model is defined for 32 only (R9). -/
abbrev mvl : Nat := 32

/-- `ENDIAN` (R61): the byte order of data and of instruction fetch. -/
inductive Endian where
  /-- The byte at the lowest address is the most significant. -/
  | big
  /-- The byte at the lowest address is the least significant. -/
  | little
deriving DecidableEq, Repr

/-- `CLIPAM3` (R7, R263): what `clipam = 11` does. -/
inductive ClipAm3 where
  /-- The architected model refuses it (D24, R485). -/
  | refuse
  /-- Table 8 of the source, "Unpredictable": the model's own reading, the result is a free value (log 16). -/
  | unpredictable
  /-- Table 11 of the source, T0: clip to 16 bits. -/
  | clip16
deriving DecidableEq, Repr

/-- `T0_CFG_BITS` (R7, R262, R290): what the unused bits of a fixed-point configuration word do. -/
inductive T0CfgBits where
  /-- They are not honoured: the architected model refuses a word that sets one (D25, R485). -/
  | refuse
  /-- They are not honoured: the model's own reading, the result of such a word is a free value (log 17). -/
  | unpredictable
  /-- They are the T0-only fields of Appendix A. -/
  | honoured
deriving DecidableEq, Repr

/-- The run parameters of R7. `XLEN`, `ELEN` and `MVL` are fixed at 32; `VCOUNT_RATE` is not a number of
the model (each read of `vcount` is drawn, log 14); `CU1`, `CU2` are fields of the state (R40). -/
structure Config where
  /-- `ENDIAN` (R61). -/
  endian : Endian
  /-- `NVREG`, the number of vector registers (R26). -/
  nvreg : Nat
  /-- `VREV_IMP`, bits 15:8 of `vrev` (R33). -/
  vrevImp : Byte
  /-- `VREV_REV`, bits 7:0 of `vrev` (R33). -/
  vrevRev : Byte
  /-- `SYNC_REQUIRED` (R73). -/
  syncRequired : Bool
  /-- `HAS_FPU` (R41, R447). -/
  hasFpu : Bool
  /-- `CLIPAM3` (R263). -/
  clipam3 : ClipAm3
  /-- `T0_CFG_BITS` (R262, R290). -/
  t0CfgBits : T0CfgBits
deriving DecidableEq, Repr

/-- The run parameters at reset: the values of R7, T0's where the source gives one, else the default; `clipam3`
is the default of ruling D24. Two are the model's own: `vrevRev`, since the source gives no mask revision (DESIGN
CHOICE, log 10), and `t0CfgBits`, since neither R7 nor R8 gives it a default: the architected model of ruling D25
(DESIGN CHOICE, log 57). -/
def Config.default : Config where
  endian := .big
  nvreg := 16
  vrevImp := 0
  vrevRev := 0
  syncRequired := true
  hasFpu := false
  clipam3 := .refuse
  t0CfgBits := .refuse

/-- The twelve T0-only fields of the fixed-point configuration register (R291). -/
structure T0Extra where
  lufunc : BitVec 4
  shlza : Bool
  shlv : Bool
  au : Bool
  bu : Bool
  shrv : Bool
  sepsham : Bool
  /-- The separate right-shift amount; `T0Readings.shramBits` says how many of its bits there are. -/
  shram : BitVec 5
  shrl : Bool
  lures : Bool
  noclip : Bool
  wcond : BitVec 3
deriving DecidableEq, Repr, Inhabited

/-- The free values of a run: every 32-bit value that the spec leaves open is one of these, drawn in turn
by the counter `draws` of the state (log 13). No body: nothing can be proved of a value. -/
opaque Config.freeWord : Nat → Word

/-- How T0 reads its own configuration fields out of the unused bits of `x[rd]`. The figure that gave the
positions is lost (R291, N12), so the reading is a free function of the word (log 17). -/
opaque Config.t0Extra : Word → T0Extra

/-- What Appendix A leaves open in the T0 pipelines and asks a model to parameterise (R315, log 18). None of it
is reached by an architected configuration (R292). -/
structure T0Readings where
  /-- How many bits `shram` has: at most 5, since the shift is by up to 31 places (R299). -/
  shramBits : Fin 6
  /-- The 33-bit output of the adder for an exact sum that is no 33-bit signed number (R298, R313). -/
  adderWrap : Int → BitVec 33
  /-- Whether the logical right shift takes all 33 bits of the adder output, or its low 32 (R299). -/
  logical33 : Bool
  /-- Whether the `.sv` form of the multiply takes `v[vd][i]` as `A` and `x[rt]` as `B` (R306). -/
  mulSvSwapped : Bool
  /-- What a `lufunc` that is not zero makes of the operands of the multiply (R315); it may leave them. -/
  mulOperands : BitVec 4 → Word → Word → Word × Word
  /-- The amount that places the round bit when `shlv = 1`, from the variable amount and `shlam` (R296). -/
  roundAmount : Nat → Nat → Nat
deriving Inhabited

/-- The readings of a run: no body, so nothing can be proved of one of them (log 18). -/
opaque Config.t0Readings : T0Readings

end Sys2Proof
end

