-- ==== Sys2Proof/Syntax.lean ====
section
/-! DEFINITION. The abstract syntax: one constructor for each row of spec/opcode_table.json, its arguments
the fields of the instruction word in the operand order of the assembler (30_encoding.md R110, and the
rule of each instruction). A vector instruction names the scalar registers `rt`, `rd` and the vector
registers `vt`, `vw`, `vd`; a scalar instruction `rs`, `rt`, `rd`. -/

namespace Sys2Proof

/-- An instruction of the Torrent ISA: 93 of the vector unit and 81 of the scalar CPU. -/
inductive Instr where
  /-- R121 `cfvu rt, cs`. -/
  | cfvu (rt : Reg) (cs : CReg)
  /-- R122 `ctvu rt, cs`. -/
  | ctvu (rt : Reg) (cs : CReg)
  /-- R133 `vext.v vd, vt, rd`. -/
  | vextV (vd vt : VReg) (rd : Reg)
  /-- R135 `vins.s rt, vd, rd`. -/
  | vinsS (rt : Reg) (vd : VReg) (rd : Reg)
  /-- R136 `vext.s rt, vd, rd`. -/
  | vextS (rt : Reg) (vd : VReg) (rd : Reg)
  /-- R150 `lbai.v vd, rd, rt`. -/
  | lbaiV (vd : VReg) (rd rt : Reg)
  /-- R151 `lhai.v vd, rd, rt`. -/
  | lhaiV (vd : VReg) (rd rt : Reg)
  /-- R152 `lwai.v vd, rd, rt`. -/
  | lwaiV (vd : VReg) (rd rt : Reg)
  /-- R153 `lbuai.v vd, rd, rt`. -/
  | lbuaiV (vd : VReg) (rd rt : Reg)
  /-- R154 `lhuai.v vd, rd, rt`. -/
  | lhuaiV (vd : VReg) (rd rt : Reg)
  /-- R155 `lbx.v vd, rd, vt`. -/
  | lbxV (vd : VReg) (rd : Reg) (vt : VReg)
  /-- R156 `lhx.v vd, rd, vt`. -/
  | lhxV (vd : VReg) (rd : Reg) (vt : VReg)
  /-- R157 `lwx.v vd, rd, vt`. -/
  | lwxV (vd : VReg) (rd : Reg) (vt : VReg)
  /-- R158 `lbux.v vd, rd, vt`. -/
  | lbuxV (vd : VReg) (rd : Reg) (vt : VReg)
  /-- R159 `lhux.v vd, rd, vt`. -/
  | lhuxV (vd : VReg) (rd : Reg) (vt : VReg)
  /-- R160 `lbst.v vd, rd, rt`. -/
  | lbstV (vd : VReg) (rd rt : Reg)
  /-- R161 `lhst.v vd, rd, rt`. -/
  | lhstV (vd : VReg) (rd rt : Reg)
  /-- R162 `lwst.v vd, rd, rt`. -/
  | lwstV (vd : VReg) (rd rt : Reg)
  /-- R163 `lbust.v vd, rd, rt`. -/
  | lbustV (vd : VReg) (rd rt : Reg)
  /-- R164 `lhust.v vd, rd, rt`. -/
  | lhustV (vd : VReg) (rd rt : Reg)
  /-- R165 `sbai.v vd, rd, rt`. -/
  | sbaiV (vd : VReg) (rd rt : Reg)
  /-- R166 `shai.v vd, rd, rt`. -/
  | shaiV (vd : VReg) (rd rt : Reg)
  /-- R167 `swai.v vd, rd, rt`. -/
  | swaiV (vd : VReg) (rd rt : Reg)
  /-- R168 `sbx.v vd, rd, vt`. -/
  | sbxV (vd : VReg) (rd : Reg) (vt : VReg)
  /-- R169 `shx.v vd, rd, vt`. -/
  | shxV (vd : VReg) (rd : Reg) (vt : VReg)
  /-- R170 `swx.v vd, rd, vt`. -/
  | swxV (vd : VReg) (rd : Reg) (vt : VReg)
  /-- R171 `sbst.v vd, rd, rt`. -/
  | sbstV (vd : VReg) (rd rt : Reg)
  /-- R172 `shst.v vd, rd, rt`. -/
  | shstV (vd : VReg) (rd rt : Reg)
  /-- R173 `swst.v vd, rd, rt`. -/
  | swstV (vd : VReg) (rd rt : Reg)
  /-- R188 `and.vv vw, vd, vt`. -/
  | andVV (vw vd vt : VReg)
  /-- R189 `and.vs vw, vd, rt`. -/
  | andVS (vw vd : VReg) (rt : Reg)
  /-- R190 `or.vv vw, vd, vt`. -/
  | orVV (vw vd vt : VReg)
  /-- R191 `or.vs vw, vd, rt`. -/
  | orVS (vw vd : VReg) (rt : Reg)
  /-- R192 `xor.vv vw, vd, vt`. -/
  | xorVV (vw vd vt : VReg)
  /-- R193 `xor.vs vw, vd, rt`. -/
  | xorVS (vw vd : VReg) (rt : Reg)
  /-- R194 `nor.vv vw, vd, vt`. -/
  | norVV (vw vd vt : VReg)
  /-- R195 `nor.vs vw, vd, rt`. -/
  | norVS (vw vd : VReg) (rt : Reg)
  /-- R196 `add.vv vw, vd, vt`. -/
  | addVV (vw vd vt : VReg)
  /-- R197 `add.vs vw, vd, rt`. -/
  | addVS (vw vd : VReg) (rt : Reg)
  /-- R198 `addu.vv vw, vd, vt`. -/
  | adduVV (vw vd vt : VReg)
  /-- R199 `addu.vs vw, vd, rt`. -/
  | adduVS (vw vd : VReg) (rt : Reg)
  /-- R200 `sub.vv vw, vd, vt`. -/
  | subVV (vw vd vt : VReg)
  /-- R201 `sub.vs vw, vd, rt`. -/
  | subVS (vw vd : VReg) (rt : Reg)
  /-- R202 `sub.sv vw, rt, vd`. -/
  | subSV (vw : VReg) (rt : Reg) (vd : VReg)
  /-- R203 `subu.vv vw, vd, vt`. -/
  | subuVV (vw vd vt : VReg)
  /-- R204 `subu.vs vw, vd, rt`. -/
  | subuVS (vw vd : VReg) (rt : Reg)
  /-- R205 `subu.sv vw, rt, vd`. -/
  | subuSV (vw : VReg) (rt : Reg) (vd : VReg)
  /-- R206 `sllv.vv vw, vd, vt`. -/
  | sllvVV (vw vd vt : VReg)
  /-- R207 `sllv.vs vw, vd, rt`. -/
  | sllvVS (vw vd : VReg) (rt : Reg)
  /-- R208 `sllv.sv vw, rt, vd`. -/
  | sllvSV (vw : VReg) (rt : Reg) (vd : VReg)
  /-- R209 `srav.vv vw, vd, vt`. -/
  | sravVV (vw vd vt : VReg)
  /-- R210 `srav.vs vw, vd, rt`. -/
  | sravVS (vw vd : VReg) (rt : Reg)
  /-- R211 `srav.sv vw, rt, vd`. -/
  | sravSV (vw : VReg) (rt : Reg) (vd : VReg)
  /-- R212 `srlv.vv vw, vd, vt`. -/
  | srlvVV (vw vd vt : VReg)
  /-- R213 `srlv.vs vw, vd, rt`. -/
  | srlvVS (vw vd : VReg) (rt : Reg)
  /-- R214 `srlv.sv vw, rt, vd`. -/
  | srlvSV (vw : VReg) (rt : Reg) (vd : VReg)
  /-- R226 `slt.vv vw, vd, vt`. -/
  | sltVV (vw vd vt : VReg)
  /-- R227 `slt.vs vw, vd, rt`. -/
  | sltVS (vw vd : VReg) (rt : Reg)
  /-- R228 `slt.sv vw, rt, vd`. -/
  | sltSV (vw : VReg) (rt : Reg) (vd : VReg)
  /-- R229 `sltu.vv vw, vd, vt`. -/
  | sltuVV (vw vd vt : VReg)
  /-- R230 `sltu.vs vw, vd, rt`. -/
  | sltuVS (vw vd : VReg) (rt : Reg)
  /-- R231 `sltu.sv vw, rt, vd`. -/
  | sltuSV (vw : VReg) (rt : Reg) (vd : VReg)
  /-- R232 `seq.vv vw, vd, vt`. -/
  | seqVV (vw vd vt : VReg)
  /-- R233 `seq.vs vw, vd, rt`. -/
  | seqVS (vw vd : VReg) (rt : Reg)
  /-- R234 `flt.vv vd, vt`. -/
  | fltVV (vd vt : VReg)
  /-- R235 `flt.vs vd, rt`. -/
  | fltVS (vd : VReg) (rt : Reg)
  /-- R236 `flt.sv rt, vd`. -/
  | fltSV (rt : Reg) (vd : VReg)
  /-- R237 `fltu.vv vd, vt`. -/
  | fltuVV (vd vt : VReg)
  /-- R238 `fltu.vs vd, rt`. -/
  | fltuVS (vd : VReg) (rt : Reg)
  /-- R239 `fltu.sv rt, vd`. -/
  | fltuSV (rt : Reg) (vd : VReg)
  /-- R240 `feq.vv vd, vt`. -/
  | feqVV (vd vt : VReg)
  /-- R241 `feq.vs vd, rt`. -/
  | feqVS (vd : VReg) (rt : Reg)
  /-- R242 `cmvnez.vv vw, vd, vt`. -/
  | cmvnezVV (vw vd vt : VReg)
  /-- R243 `cmvgez.vv vw, vd, vt`. -/
  | cmvgezVV (vw vd vt : VReg)
  /-- R244 `cmvlez.vv vw, vd, vt`. -/
  | cmvlezVV (vw vd vt : VReg)
  /-- R245 `cmveqz.vv vw, vd, vt`. -/
  | cmveqzVV (vw vd vt : VReg)
  /-- R246 `cmvltz.vv vw, vd, vt`. -/
  | cmvltzVV (vw vd vt : VReg)
  /-- R247 `cmvgtz.vv vw, vd, vt`. -/
  | cmvgtzVV (vw vd vt : VReg)
  /-- R248 `cmvnez.vs vw, vd, rt`. -/
  | cmvnezVS (vw vd : VReg) (rt : Reg)
  /-- R249 `cmvgez.vs vw, vd, rt`. -/
  | cmvgezVS (vw vd : VReg) (rt : Reg)
  /-- R250 `cmvlez.vs vw, vd, rt`. -/
  | cmvlezVS (vw vd : VReg) (rt : Reg)
  /-- R251 `cmveqz.vs vw, vd, rt`. -/
  | cmveqzVS (vw vd : VReg) (rt : Reg)
  /-- R252 `cmvltz.vs vw, vd, rt`. -/
  | cmvltzVS (vw vd : VReg) (rt : Reg)
  /-- R253 `cmvgtz.vs vw, vd, rt`. -/
  | cmvgtzVS (vw vd : VReg) (rt : Reg)
  /-- R276 `fxadd.vv vw, vd, vt, rd`. -/
  | fxaddVV (vw vd vt : VReg) (rd : Reg)
  /-- R277 `fxadd.vs vw, vd, rt, rd`. -/
  | fxaddVS (vw vd : VReg) (rt rd : Reg)
  /-- R278 `fxadd.sv vw, rt, vd, rd`. -/
  | fxaddSV (vw : VReg) (rt : Reg) (vd : VReg) (rd : Reg)
  /-- R279 `fxsub.vv vw, vd, vt, rd`. -/
  | fxsubVV (vw vd vt : VReg) (rd : Reg)
  /-- R280 `fxsub.vs vw, vd, rt, rd`. -/
  | fxsubVS (vw vd : VReg) (rt rd : Reg)
  /-- R281 `fxsub.sv vw, rt, vd, rd`. -/
  | fxsubSV (vw : VReg) (rt : Reg) (vd : VReg) (rd : Reg)
  /-- R282 `fxmul.vv vw, vd, vt, rd`. -/
  | fxmulVV (vw vd vt : VReg) (rd : Reg)
  /-- R283 `fxmul.vs vw, vd, rt, rd`. -/
  | fxmulVS (vw vd : VReg) (rt rd : Reg)
  /-- R284 `fxmul.sv vw, rt, vd, rd`. -/
  | fxmulSV (vw : VReg) (rt : Reg) (vd : VReg) (rd : Reg)
  /-- R336 `add rd, rs, rt`. -/
  | add (rd rs rt : Reg)
  /-- R337 `addu rd, rs, rt`. -/
  | addu (rd rs rt : Reg)
  /-- R338 `sub rd, rs, rt`. -/
  | sub (rd rs rt : Reg)
  /-- R339 `subu rd, rs, rt`. -/
  | subu (rd rs rt : Reg)
  /-- R340 `and rd, rs, rt`. -/
  | and (rd rs rt : Reg)
  /-- R341 `or rd, rs, rt`. -/
  | or (rd rs rt : Reg)
  /-- R342 `xor rd, rs, rt`. -/
  | xor (rd rs rt : Reg)
  /-- R343 `nor rd, rs, rt`. -/
  | nor (rd rs rt : Reg)
  /-- R344 `slt rd, rs, rt`. -/
  | slt (rd rs rt : Reg)
  /-- R345 `sltu rd, rs, rt`. -/
  | sltu (rd rs rt : Reg)
  /-- R346 `addi rt, rs, imm`. -/
  | addi (rt rs : Reg) (imm : BitVec 16)
  /-- R347 `addiu rt, rs, imm`. -/
  | addiu (rt rs : Reg) (imm : BitVec 16)
  /-- R348 `slti rt, rs, imm`. -/
  | slti (rt rs : Reg) (imm : BitVec 16)
  /-- R349 `sltiu rt, rs, imm`. -/
  | sltiu (rt rs : Reg) (imm : BitVec 16)
  /-- R350 `andi rt, rs, imm`. -/
  | andi (rt rs : Reg) (imm : BitVec 16)
  /-- R351 `ori rt, rs, imm`. -/
  | ori (rt rs : Reg) (imm : BitVec 16)
  /-- R352 `xori rt, rs, imm`. -/
  | xori (rt rs : Reg) (imm : BitVec 16)
  /-- R353 `lui rt, imm`. -/
  | lui (rt : Reg) (imm : BitVec 16)
  /-- R354 `sll rd, rt, sa`. -/
  | sll (rd rt : Reg) (sa : BitVec 5)
  /-- R355 `srl rd, rt, sa`. -/
  | srl (rd rt : Reg) (sa : BitVec 5)
  /-- R356 `sra rd, rt, sa`. -/
  | sra (rd rt : Reg) (sa : BitVec 5)
  /-- R357 `sllv rd, rt, rs`. -/
  | sllv (rd rt rs : Reg)
  /-- R358 `srlv rd, rt, rs`. -/
  | srlv (rd rt rs : Reg)
  /-- R359 `srav rd, rt, rs`. -/
  | srav (rd rt rs : Reg)
  /-- R360 `mult rs, rt`. -/
  | mult (rs rt : Reg)
  /-- R361 `multu rs, rt`. -/
  | multu (rs rt : Reg)
  /-- R362 `div rs, rt`. -/
  | div (rs rt : Reg)
  /-- R363 `divu rs, rt`. -/
  | divu (rs rt : Reg)
  /-- R364 `mfhi rd`. -/
  | mfhi (rd : Reg)
  /-- R365 `mthi rs`. -/
  | mthi (rs : Reg)
  /-- R366 `mflo rd`. -/
  | mflo (rd : Reg)
  /-- R367 `mtlo rs`. -/
  | mtlo (rs : Reg)
  /-- R392 `lb rt, imm(rs)`. -/
  | lb (rt : Reg) (imm : BitVec 16) (rs : Reg)
  /-- R393 `lbu rt, imm(rs)`. -/
  | lbu (rt : Reg) (imm : BitVec 16) (rs : Reg)
  /-- R394 `lh rt, imm(rs)`. -/
  | lh (rt : Reg) (imm : BitVec 16) (rs : Reg)
  /-- R395 `lhu rt, imm(rs)`. -/
  | lhu (rt : Reg) (imm : BitVec 16) (rs : Reg)
  /-- R396 `lw rt, imm(rs)`. -/
  | lw (rt : Reg) (imm : BitVec 16) (rs : Reg)
  /-- R397 `lwl rt, imm(rs)`. -/
  | lwl (rt : Reg) (imm : BitVec 16) (rs : Reg)
  /-- R398 `lwr rt, imm(rs)`. -/
  | lwr (rt : Reg) (imm : BitVec 16) (rs : Reg)
  /-- R399 `sb rt, imm(rs)`. -/
  | sb (rt : Reg) (imm : BitVec 16) (rs : Reg)
  /-- R400 `sh rt, imm(rs)`. -/
  | sh (rt : Reg) (imm : BitVec 16) (rs : Reg)
  /-- R401 `sw rt, imm(rs)`. -/
  | sw (rt : Reg) (imm : BitVec 16) (rs : Reg)
  /-- R402 `swl rt, imm(rs)`. -/
  | swl (rt : Reg) (imm : BitVec 16) (rs : Reg)
  /-- R403 `swr rt, imm(rs)`. -/
  | swr (rt : Reg) (imm : BitVec 16) (rs : Reg)
  /-- R404 `ll rt, imm(rs)`. -/
  | ll (rt : Reg) (imm : BitVec 16) (rs : Reg)
  /-- R405 `sc rt, imm(rs)`. -/
  | sc (rt : Reg) (imm : BitVec 16) (rs : Reg)
  /-- R406 `sync`. -/
  | sync
  /-- R411 `beq rs, rt, imm`. -/
  | beq (rs rt : Reg) (imm : BitVec 16)
  /-- R412 `bne rs, rt, imm`. -/
  | bne (rs rt : Reg) (imm : BitVec 16)
  /-- R413 `blez rs, imm`. -/
  | blez (rs : Reg) (imm : BitVec 16)
  /-- R414 `bgtz rs, imm`. -/
  | bgtz (rs : Reg) (imm : BitVec 16)
  /-- R415 `bltz rs, imm`. -/
  | bltz (rs : Reg) (imm : BitVec 16)
  /-- R416 `bgez rs, imm`. -/
  | bgez (rs : Reg) (imm : BitVec 16)
  /-- R417 `bltzal rs, imm`. -/
  | bltzal (rs : Reg) (imm : BitVec 16)
  /-- R418 `bgezal rs, imm`. -/
  | bgezal (rs : Reg) (imm : BitVec 16)
  /-- R419 `beql rs, rt, imm`. -/
  | beql (rs rt : Reg) (imm : BitVec 16)
  /-- R420 `bnel rs, rt, imm`. -/
  | bnel (rs rt : Reg) (imm : BitVec 16)
  /-- R421 `blezl rs, imm`. -/
  | blezl (rs : Reg) (imm : BitVec 16)
  /-- R422 `bgtzl rs, imm`. -/
  | bgtzl (rs : Reg) (imm : BitVec 16)
  /-- R423 `bltzl rs, imm`. -/
  | bltzl (rs : Reg) (imm : BitVec 16)
  /-- R424 `bgezl rs, imm`. -/
  | bgezl (rs : Reg) (imm : BitVec 16)
  /-- R425 `bltzall rs, imm`. -/
  | bltzall (rs : Reg) (imm : BitVec 16)
  /-- R426 `bgezall rs, imm`. -/
  | bgezall (rs : Reg) (imm : BitVec 16)
  /-- R427 `j target`. -/
  | j (target : BitVec 26)
  /-- R428 `jal target`. -/
  | jal (target : BitVec 26)
  /-- R429 `jr rs`. -/
  | jr (rs : Reg)
  /-- R430 `jalr rd, rs`. -/
  | jalr (rd rs : Reg)
  /-- R432 `tge rs, rt, code`. -/
  | tge (rs rt : Reg) (code : BitVec 10)
  /-- R433 `tgeu rs, rt, code`. -/
  | tgeu (rs rt : Reg) (code : BitVec 10)
  /-- R434 `tlt rs, rt, code`. -/
  | tlt (rs rt : Reg) (code : BitVec 10)
  /-- R435 `tltu rs, rt, code`. -/
  | tltu (rs rt : Reg) (code : BitVec 10)
  /-- R436 `teq rs, rt, code`. -/
  | teq (rs rt : Reg) (code : BitVec 10)
  /-- R437 `tne rs, rt, code`. -/
  | tne (rs rt : Reg) (code : BitVec 10)
  /-- R438 `tgei rs, imm`. -/
  | tgei (rs : Reg) (imm : BitVec 16)
  /-- R439 `tgeiu rs, imm`. -/
  | tgeiu (rs : Reg) (imm : BitVec 16)
  /-- R440 `tlti rs, imm`. -/
  | tlti (rs : Reg) (imm : BitVec 16)
  /-- R441 `tltiu rs, imm`. -/
  | tltiu (rs : Reg) (imm : BitVec 16)
  /-- R442 `teqi rs, imm`. -/
  | teqi (rs : Reg) (imm : BitVec 16)
  /-- R443 `tnei rs, imm`. -/
  | tnei (rs : Reg) (imm : BitVec 16)
  /-- R444 `syscall code`. -/
  | syscall (code : BitVec 20)
  /-- R445 `break code`. -/
  | brk (code : BitVec 20)
deriving DecidableEq, Repr

end Sys2Proof
end

