-- ==== Sys2Proof/WellFormed.lean ====
section
/-! DEFINITION. Which instructions are well formed: the operand combinations that the spec forbids as
instructions are excluded. Every operand field has its full range otherwise. A well-formed instruction may
still trap (a vector register number that the implementation lacks, R29) or be refused for the state it
runs in (a branch in a delay slot, R410). -/

namespace Sys2Proof

/-- The six control register numbers of Table 1: `vrev`, `vcount`, `vlr`, `vcond`, `vovf`, `vsat` (R31,
R120). -/
def validControlRegister (cs : CReg) : Bool :=
  cs == 0 || cs == 1 || cs == 2 || cs == 4 || cs == 8 || cs == 12

/-- The control registers that `ctvu` writes: not `vrev` or `vcount`, which are read only (R122, R125). -/
def writableControlRegister (cs : CReg) : Bool :=
  cs == 2 || cs == 4 || cs == 8 || cs == 12

/-- The operand conditions of the rules: valid control registers (R123, R125), an auto-increment whose base
and increment registers differ (R145), a link register that is not the source (R417, R418, R425, R426,
R430). -/
def Instr.wellFormed : Instr → Bool
  | .cfvu _ cs => validControlRegister cs
  | .ctvu _ cs => writableControlRegister cs
  | .lbaiV _ rd rt | .lhaiV _ rd rt | .lwaiV _ rd rt | .lbuaiV _ rd rt | .lhuaiV _ rd rt
  | .sbaiV _ rd rt | .shaiV _ rd rt | .swaiV _ rd rt => rd != rt
  | .bltzal rs _ | .bgezal rs _ | .bltzall rs _ | .bgezall rs _ => rs != 31
  | .jalr rd rs => rd != rs
  | .vextV _ _ _ | .vinsS _ _ _ | .vextS _ _ _ | .lbxV _ _ _ | .lhxV _ _ _ | .lwxV _ _ _
  | .lbuxV _ _ _ | .lhuxV _ _ _ | .lbstV _ _ _ | .lhstV _ _ _ | .lwstV _ _ _ | .lbustV _ _ _
  | .lhustV _ _ _ | .sbxV _ _ _ | .shxV _ _ _ | .swxV _ _ _ | .sbstV _ _ _ | .shstV _ _ _
  | .swstV _ _ _ | .andVV _ _ _ | .andVS _ _ _ | .orVV _ _ _ | .orVS _ _ _ | .xorVV _ _ _
  | .xorVS _ _ _ | .norVV _ _ _ | .norVS _ _ _ | .addVV _ _ _ | .addVS _ _ _ | .adduVV _ _ _
  | .adduVS _ _ _ | .subVV _ _ _ | .subVS _ _ _ | .subSV _ _ _ | .subuVV _ _ _ | .subuVS _ _ _
  | .subuSV _ _ _ | .sllvVV _ _ _ | .sllvVS _ _ _ | .sllvSV _ _ _ | .sravVV _ _ _ | .sravVS _ _ _
  | .sravSV _ _ _ | .srlvVV _ _ _ | .srlvVS _ _ _ | .srlvSV _ _ _ | .sltVV _ _ _ | .sltVS _ _ _
  | .sltSV _ _ _ | .sltuVV _ _ _ | .sltuVS _ _ _ | .sltuSV _ _ _ | .seqVV _ _ _ | .seqVS _ _ _
  | .fltVV _ _ | .fltVS _ _ | .fltSV _ _ | .fltuVV _ _ | .fltuVS _ _ | .fltuSV _ _ | .feqVV _ _
  | .feqVS _ _ | .cmvnezVV _ _ _ | .cmvgezVV _ _ _ | .cmvlezVV _ _ _ | .cmveqzVV _ _ _
  | .cmvltzVV _ _ _ | .cmvgtzVV _ _ _ | .cmvnezVS _ _ _ | .cmvgezVS _ _ _ | .cmvlezVS _ _ _
  | .cmveqzVS _ _ _ | .cmvltzVS _ _ _ | .cmvgtzVS _ _ _ | .fxaddVV _ _ _ _ | .fxaddVS _ _ _ _
  | .fxaddSV _ _ _ _ | .fxsubVV _ _ _ _ | .fxsubVS _ _ _ _ | .fxsubSV _ _ _ _ | .fxmulVV _ _ _ _
  | .fxmulVS _ _ _ _ | .fxmulSV _ _ _ _ | .add _ _ _ | .addu _ _ _ | .sub _ _ _ | .subu _ _ _
  | .and _ _ _ | .or _ _ _ | .xor _ _ _ | .nor _ _ _ | .slt _ _ _ | .sltu _ _ _ | .addi _ _ _
  | .addiu _ _ _ | .slti _ _ _ | .sltiu _ _ _ | .andi _ _ _ | .ori _ _ _ | .xori _ _ _ | .lui _ _
  | .sll _ _ _ | .srl _ _ _ | .sra _ _ _ | .sllv _ _ _ | .srlv _ _ _ | .srav _ _ _ | .mult _ _
  | .multu _ _ | .div _ _ | .divu _ _ | .mfhi _ | .mthi _ | .mflo _ | .mtlo _ | .lb _ _ _
  | .lbu _ _ _ | .lh _ _ _ | .lhu _ _ _ | .lw _ _ _ | .lwl _ _ _ | .lwr _ _ _ | .sb _ _ _
  | .sh _ _ _ | .sw _ _ _ | .swl _ _ _ | .swr _ _ _ | .ll _ _ _ | .sc _ _ _ | .sync | .beq _ _ _
  | .bne _ _ _ | .blez _ _ | .bgtz _ _ | .bltz _ _ | .bgez _ _ | .beql _ _ _ | .bnel _ _ _
  | .blezl _ _ | .bgtzl _ _ | .bltzl _ _ | .bgezl _ _ | .j _ | .jal _ | .jr _ | .tge _ _ _
  | .tgeu _ _ _ | .tlt _ _ _ | .tltu _ _ _ | .teq _ _ _ | .tne _ _ _ | .tgei _ _ | .tgeiu _ _
  | .tlti _ _ | .tltiu _ _ | .teqi _ _ | .tnei _ _ | .syscall _ | .brk _ => true

end Sys2Proof
end

