-- ==== Sys2Proof/Decode.lean ====
section
/-! DEFINITION. Decoding a 32-bit word and encoding an instruction. The decoder is total: a word is an
instruction of the table or one of the named classes of words that are not (30_encoding.md R101, R103 to
R108; 47_scalar_compute.md R334; 48_scalar_mem_control_system.md R446 to R449). What a word of such a class
does is in Machine/Fetch.lean. The encoder is written from the same tables. -/

namespace Sys2Proof

/-! ## The fields of a word (R91, R92, R330) -/

/-- Bits 31:26. -/
def opcodeField (w : Word) : BitVec 6 := w.extractLsb' 26 6
/-- Bits 25:21: `rs`, or the format of a VU word. -/
def rsField (w : Word) : BitVec 5 := w.extractLsb' 21 5
/-- Bits 20:16: `rt` or `vt`. -/
def rtField (w : Word) : BitVec 5 := w.extractLsb' 16 5
/-- Bits 15:11: `rd`, `cs`, or a function code of an integer VU word. -/
def rdField (w : Word) : BitVec 5 := w.extractLsb' 11 5
/-- Bits 10:6: `sa`. -/
def saField (w : Word) : BitVec 5 := w.extractLsb' 6 5
/-- Bits 5:0: `funct`. -/
def functField (w : Word) : BitVec 6 := w.extractLsb' 0 6
/-- Bit 10: `opers`. -/
def opersField (w : Word) : BitVec 1 := w.extractLsb' 10 1
/-- Bits 9:5: `vw`, or a function code of a VU word. -/
def vwField (w : Word) : BitVec 5 := w.extractLsb' 5 5
/-- Bits 4:0: `vd`. -/
def vdField (w : Word) : BitVec 5 := w.extractLsb' 0 5
/-- Bits 15:0: `imm`. -/
def immField (w : Word) : BitVec 16 := w.extractLsb' 0 16
/-- Bits 25:0: `target`. -/
def targetField (w : Word) : BitVec 26 := w.extractLsb' 0 26
/-- Bits 15:6: the `code` of a conditional trap (R431). -/
def code10Field (w : Word) : BitVec 10 := w.extractLsb' 6 10
/-- Bits 25:6: the `code` of `syscall` and `break` (R444, R445). -/
def code20Field (w : Word) : BitVec 20 := w.extractLsb' 6 20

/-! ## The decoder -/

/-- What a word is. -/
inductive Decoded where
  /-- An instruction of the table. -/
  | instr (i : Instr)
  /-- A coprocessor-2 word that is reserved or unassigned (R103 to R108). -/
  | cop2Reserved
  /-- A coprocessor-0 word (R446). -/
  | cop0
  /-- A coprocessor-1 word, load or store (R447). -/
  | cop1
  /-- A coprocessor-3 word, load or store (R448). -/
  | cop3
  /-- An unassigned scalar word (R449). -/
  | reserved
  /-- An assigned scalar word with a must-be-zero field that is not zero (R334). -/
  | mustBeZero
deriving DecidableEq, Repr

/-- An instruction whose fixed-zero fields are zero, or the class of R334. -/
def Decoded.ifZero (zero : Bool) (i : Instr) : Decoded :=
  if zero then .instr i else .mustBeZero

/-- Words with opcode SPECIAL, by `funct` (R336 to R367, R406, R429, R430, R432 to R437, R444, R445; the
unassigned codes of R449). -/
def decodeSpecial (w : Word) : Decoded :=
  let rs := rsField w
  let rt := rtField w
  let rd := rdField w
  let sa := saField w
  match functField w with
  | 0b000000#6 => .ifZero (rs == 0) (.sll rd rt sa)
  | 0b000010#6 => .ifZero (rs == 0) (.srl rd rt sa)
  | 0b000011#6 => .ifZero (rs == 0) (.sra rd rt sa)
  | 0b000100#6 => .ifZero (sa == 0) (.sllv rd rt rs)
  | 0b000110#6 => .ifZero (sa == 0) (.srlv rd rt rs)
  | 0b000111#6 => .ifZero (sa == 0) (.srav rd rt rs)
  | 0b001000#6 => .ifZero (rt == 0 && rd == 0 && sa == 0) (.jr rs)
  | 0b001001#6 => .ifZero (rt == 0 && sa == 0) (.jalr rd rs)
  | 0b001100#6 => .instr (.syscall (code20Field w))
  | 0b001101#6 => .instr (.brk (code20Field w))
  | 0b001111#6 => .ifZero (rs == 0 && rt == 0 && rd == 0 && sa == 0) .sync
  | 0b010000#6 => .ifZero (rs == 0 && rt == 0 && sa == 0) (.mfhi rd)
  | 0b010001#6 => .ifZero (rt == 0 && rd == 0 && sa == 0) (.mthi rs)
  | 0b010010#6 => .ifZero (rs == 0 && rt == 0 && sa == 0) (.mflo rd)
  | 0b010011#6 => .ifZero (rt == 0 && rd == 0 && sa == 0) (.mtlo rs)
  | 0b011000#6 => .ifZero (rd == 0 && sa == 0) (.mult rs rt)
  | 0b011001#6 => .ifZero (rd == 0 && sa == 0) (.multu rs rt)
  | 0b011010#6 => .ifZero (rd == 0 && sa == 0) (.div rs rt)
  | 0b011011#6 => .ifZero (rd == 0 && sa == 0) (.divu rs rt)
  | 0b100000#6 => .ifZero (sa == 0) (.add rd rs rt)
  | 0b100001#6 => .ifZero (sa == 0) (.addu rd rs rt)
  | 0b100010#6 => .ifZero (sa == 0) (.sub rd rs rt)
  | 0b100011#6 => .ifZero (sa == 0) (.subu rd rs rt)
  | 0b100100#6 => .ifZero (sa == 0) (.and rd rs rt)
  | 0b100101#6 => .ifZero (sa == 0) (.or rd rs rt)
  | 0b100110#6 => .ifZero (sa == 0) (.xor rd rs rt)
  | 0b100111#6 => .ifZero (sa == 0) (.nor rd rs rt)
  | 0b101010#6 => .ifZero (sa == 0) (.slt rd rs rt)
  | 0b101011#6 => .ifZero (sa == 0) (.sltu rd rs rt)
  | 0b110000#6 => .instr (.tge rs rt (code10Field w))
  | 0b110001#6 => .instr (.tgeu rs rt (code10Field w))
  | 0b110010#6 => .instr (.tlt rs rt (code10Field w))
  | 0b110011#6 => .instr (.tltu rs rt (code10Field w))
  | 0b110100#6 => .instr (.teq rs rt (code10Field w))
  | 0b110110#6 => .instr (.tne rs rt (code10Field w))
  | _ => .reserved

/-- Words with opcode REGIMM, by the `rt` field (R415 to R418, R423 to R426, R438 to R443, R449). -/
def decodeRegimm (w : Word) : Decoded :=
  let rs := rsField w
  let imm := immField w
  match rtField w with
  | 0b00000#5 => .instr (.bltz rs imm)
  | 0b00001#5 => .instr (.bgez rs imm)
  | 0b00010#5 => .instr (.bltzl rs imm)
  | 0b00011#5 => .instr (.bgezl rs imm)
  | 0b01000#5 => .instr (.tgei rs imm)
  | 0b01001#5 => .instr (.tgeiu rs imm)
  | 0b01010#5 => .instr (.tlti rs imm)
  | 0b01011#5 => .instr (.tltiu rs imm)
  | 0b01100#5 => .instr (.teqi rs imm)
  | 0b01110#5 => .instr (.tnei rs imm)
  | 0b10000#5 => .instr (.bltzal rs imm)
  | 0b10001#5 => .instr (.bgezal rs imm)
  | 0b10010#5 => .instr (.bltzall rs imm)
  | 0b10011#5 => .instr (.bgezall rs imm)
  | _ => .reserved

/-- A VU instruction whose `opers` bit must be 0, or a reserved word (R104, R105, R106). -/
def Decoded.ifOpers0 (w : Word) (i : Instr) : Decoded :=
  if opersField w = 0 then .instr i else .cop2Reserved

/-- An integer or fixed-point vector-scalar word: the `.vs` form with `opers = 0`, the `.sv` form with
`opers = 1` (R94). -/
def Decoded.byOpers (w : Word) (vs sv : Instr) : Decoded :=
  if opersField w = 0 then .instr vs else .instr sv

/-- A flag instruction, whose bits 9:5 are fixed at zero (R97, R107). -/
def Decoded.ifNoVw (w : Word) (d : Decoded) : Decoded :=
  if vwField w = 0 then d else .cop2Reserved

/-- Sub-format V-MEM, format `10010`: indexed (R96, Table 5). -/
def decodeMemIndexed (w : Word) : Decoded :=
  let vd := vdField w
  let rd := rdField w
  let vt := rtField w
  match vwField w with
  | 0b10000#5 => .ifOpers0 w (.lbxV vd rd vt)
  | 0b10001#5 => .ifOpers0 w (.lhxV vd rd vt)
  | 0b10011#5 => .ifOpers0 w (.lwxV vd rd vt)
  | 0b10100#5 => .ifOpers0 w (.lbuxV vd rd vt)
  | 0b10101#5 => .ifOpers0 w (.lhuxV vd rd vt)
  | 0b11000#5 => .ifOpers0 w (.sbxV vd rd vt)
  | 0b11001#5 => .ifOpers0 w (.shxV vd rd vt)
  | 0b11011#5 => .ifOpers0 w (.swxV vd rd vt)
  | _ => .cop2Reserved

/-- Sub-format V-MEM, format `10011`: unit-stride with auto-increment, and strided (R96, Table 5). -/
def decodeMemScalar (w : Word) : Decoded :=
  let vd := vdField w
  let rd := rdField w
  let rt := rtField w
  match vwField w with
  | 0b00000#5 => .ifOpers0 w (.lbaiV vd rd rt)
  | 0b00001#5 => .ifOpers0 w (.lhaiV vd rd rt)
  | 0b00011#5 => .ifOpers0 w (.lwaiV vd rd rt)
  | 0b00100#5 => .ifOpers0 w (.lbuaiV vd rd rt)
  | 0b00101#5 => .ifOpers0 w (.lhuaiV vd rd rt)
  | 0b01000#5 => .ifOpers0 w (.sbaiV vd rd rt)
  | 0b01001#5 => .ifOpers0 w (.shaiV vd rd rt)
  | 0b01011#5 => .ifOpers0 w (.swaiV vd rd rt)
  | 0b10000#5 => .ifOpers0 w (.lbstV vd rd rt)
  | 0b10001#5 => .ifOpers0 w (.lhstV vd rd rt)
  | 0b10011#5 => .ifOpers0 w (.lwstV vd rd rt)
  | 0b10100#5 => .ifOpers0 w (.lbustV vd rd rt)
  | 0b10101#5 => .ifOpers0 w (.lhustV vd rd rt)
  | 0b11000#5 => .ifOpers0 w (.sbstV vd rd rt)
  | 0b11001#5 => .ifOpers0 w (.shstV vd rd rt)
  | 0b11011#5 => .ifOpers0 w (.swstV vd rd rt)
  | _ => .cop2Reserved

/-- Sub-format V-INT, format `10100`: vector-vector (R97, Table 6). -/
def decodeIntVV (w : Word) : Decoded :=
  let vw := vwField w
  let vd := vdField w
  let vt := rtField w
  match rdField w with
  | 0b00000#5 => .ifOpers0 w (.subVV vw vd vt)
  | 0b00001#5 => .ifOpers0 w (.subuVV vw vd vt)
  | 0b00100#5 => .ifNoVw w (.ifOpers0 w (.fltVV vd vt))
  | 0b00101#5 => .ifNoVw w (.ifOpers0 w (.fltuVV vd vt))
  | 0b00110#5 => .ifNoVw w (.ifOpers0 w (.feqVV vd vt))
  | 0b01000#5 => .ifOpers0 w (.sllvVV vw vd vt)
  | 0b01001#5 => .ifOpers0 w (.srlvVV vw vd vt)
  | 0b01011#5 => .ifOpers0 w (.sravVV vw vd vt)
  | 0b01100#5 => .ifOpers0 w (.sltVV vw vd vt)
  | 0b01101#5 => .ifOpers0 w (.sltuVV vw vd vt)
  | 0b01110#5 => .ifOpers0 w (.seqVV vw vd vt)
  | 0b10000#5 => .ifOpers0 w (.addVV vw vd vt)
  | 0b10001#5 => .ifOpers0 w (.adduVV vw vd vt)
  | 0b10100#5 => .ifOpers0 w (.andVV vw vd vt)
  | 0b10101#5 => .ifOpers0 w (.orVV vw vd vt)
  | 0b10110#5 => .ifOpers0 w (.xorVV vw vd vt)
  | 0b10111#5 => .ifOpers0 w (.norVV vw vd vt)
  | 0b11001#5 => .ifOpers0 w (.cmvnezVV vw vd vt)
  | 0b11010#5 => .ifOpers0 w (.cmvgezVV vw vd vt)
  | 0b11011#5 => .ifOpers0 w (.cmvlezVV vw vd vt)
  | 0b11101#5 => .ifOpers0 w (.cmveqzVV vw vd vt)
  | 0b11110#5 => .ifOpers0 w (.cmvltzVV vw vd vt)
  | 0b11111#5 => .ifOpers0 w (.cmvgtzVV vw vd vt)
  | _ => .cop2Reserved

/-- Sub-format V-INT, format `10101`: vector-scalar, and scalar-vector with `opers = 1` (R97, Table 6). -/
def decodeIntVS (w : Word) : Decoded :=
  let vw := vwField w
  let vd := vdField w
  let rt := rtField w
  match rdField w with
  | 0b00000#5 => .byOpers w (.subVS vw vd rt) (.subSV vw rt vd)
  | 0b00001#5 => .byOpers w (.subuVS vw vd rt) (.subuSV vw rt vd)
  | 0b00100#5 => .ifNoVw w (.byOpers w (.fltVS vd rt) (.fltSV rt vd))
  | 0b00101#5 => .ifNoVw w (.byOpers w (.fltuVS vd rt) (.fltuSV rt vd))
  | 0b00110#5 => .ifNoVw w (.ifOpers0 w (.feqVS vd rt))
  | 0b01000#5 => .byOpers w (.sllvVS vw vd rt) (.sllvSV vw rt vd)
  | 0b01001#5 => .byOpers w (.srlvVS vw vd rt) (.srlvSV vw rt vd)
  | 0b01011#5 => .byOpers w (.sravVS vw vd rt) (.sravSV vw rt vd)
  | 0b01100#5 => .byOpers w (.sltVS vw vd rt) (.sltSV vw rt vd)
  | 0b01101#5 => .byOpers w (.sltuVS vw vd rt) (.sltuSV vw rt vd)
  | 0b01110#5 => .ifOpers0 w (.seqVS vw vd rt)
  | 0b10000#5 => .ifOpers0 w (.addVS vw vd rt)
  | 0b10001#5 => .ifOpers0 w (.adduVS vw vd rt)
  | 0b10100#5 => .ifOpers0 w (.andVS vw vd rt)
  | 0b10101#5 => .ifOpers0 w (.orVS vw vd rt)
  | 0b10110#5 => .ifOpers0 w (.xorVS vw vd rt)
  | 0b10111#5 => .ifOpers0 w (.norVS vw vd rt)
  | 0b11001#5 => .ifOpers0 w (.cmvnezVS vw vd rt)
  | 0b11010#5 => .ifOpers0 w (.cmvgezVS vw vd rt)
  | 0b11011#5 => .ifOpers0 w (.cmvlezVS vw vd rt)
  | 0b11101#5 => .ifOpers0 w (.cmveqzVS vw vd rt)
  | 0b11110#5 => .ifOpers0 w (.cmvltzVS vw vd rt)
  | 0b11111#5 => .ifOpers0 w (.cmvgtzVS vw vd rt)
  | _ => .cop2Reserved

/-- Words with major opcode COP2, by bits 25:21 (R91, R93, R95, R98, R101, R103, R106 to R108). -/
def decodeCop2 (w : Word) : Decoded :=
  let vw := vwField w
  let vd := vdField w
  let t := rtField w
  let rd := rdField w
  match rsField w with
  | 0b00010#5 => if w.extractLsb' 0 11 = 0 then .instr (.cfvu t rd) else .cop2Reserved
  | 0b00110#5 => if w.extractLsb' 0 11 = 0 then .instr (.ctvu t rd) else .cop2Reserved
  | 0b10000#5 =>
    match vw with
    | 0b01011#5 => .ifOpers0 w (.vextV vd t rd)
    | _ => .cop2Reserved
  | 0b10001#5 =>
    match vw with
    | 0b10011#5 => .ifOpers0 w (.vinsS t vd rd)
    | 0b11011#5 => .ifOpers0 w (.vextS t vd rd)
    | _ => .cop2Reserved
  | 0b10010#5 => decodeMemIndexed w
  | 0b10011#5 => decodeMemScalar w
  | 0b10100#5 => decodeIntVV w
  | 0b10101#5 => decodeIntVS w
  | 0b11000#5 => .ifOpers0 w (.fxaddVV vw vd t rd)
  | 0b11001#5 => .byOpers w (.fxaddVS vw vd t rd) (.fxaddSV vw t vd rd)
  | 0b11010#5 => .ifOpers0 w (.fxsubVV vw vd t rd)
  | 0b11011#5 => .byOpers w (.fxsubVS vw vd t rd) (.fxsubSV vw t vd rd)
  | 0b11100#5 => .ifOpers0 w (.fxmulVV vw vd t rd)
  | 0b11101#5 => .byOpers w (.fxmulVS vw vd t rd) (.fxmulSV vw t vd rd)
  | _ => .cop2Reserved

/-- The decoder of a 32-bit word, by the major opcode (R101, R330, R446 to R449). -/
def decodeWord (w : Word) : Decoded :=
  let rs := rsField w
  let rt := rtField w
  let imm := immField w
  match opcodeField w with
  | 0b000000#6 => decodeSpecial w
  | 0b000001#6 => decodeRegimm w
  | 0b000010#6 => .instr (.j (targetField w))
  | 0b000011#6 => .instr (.jal (targetField w))
  | 0b000100#6 => .instr (.beq rs rt imm)
  | 0b000101#6 => .instr (.bne rs rt imm)
  | 0b000110#6 => .ifZero (rt == 0) (.blez rs imm)
  | 0b000111#6 => .ifZero (rt == 0) (.bgtz rs imm)
  | 0b001000#6 => .instr (.addi rt rs imm)
  | 0b001001#6 => .instr (.addiu rt rs imm)
  | 0b001010#6 => .instr (.slti rt rs imm)
  | 0b001011#6 => .instr (.sltiu rt rs imm)
  | 0b001100#6 => .instr (.andi rt rs imm)
  | 0b001101#6 => .instr (.ori rt rs imm)
  | 0b001110#6 => .instr (.xori rt rs imm)
  | 0b001111#6 => .ifZero (rs == 0) (.lui rt imm)
  | 0b010000#6 => .cop0
  | 0b010001#6 => .cop1
  | 0b010010#6 => decodeCop2 w
  | 0b010011#6 => .cop3
  | 0b010100#6 => .instr (.beql rs rt imm)
  | 0b010101#6 => .instr (.bnel rs rt imm)
  | 0b010110#6 => .ifZero (rt == 0) (.blezl rs imm)
  | 0b010111#6 => .ifZero (rt == 0) (.bgtzl rs imm)
  | 0b100000#6 => .instr (.lb rt imm rs)
  | 0b100001#6 => .instr (.lh rt imm rs)
  | 0b100010#6 => .instr (.lwl rt imm rs)
  | 0b100011#6 => .instr (.lw rt imm rs)
  | 0b100100#6 => .instr (.lbu rt imm rs)
  | 0b100101#6 => .instr (.lhu rt imm rs)
  | 0b100110#6 => .instr (.lwr rt imm rs)
  | 0b101000#6 => .instr (.sb rt imm rs)
  | 0b101001#6 => .instr (.sh rt imm rs)
  | 0b101010#6 => .instr (.swl rt imm rs)
  | 0b101011#6 => .instr (.sw rt imm rs)
  | 0b101110#6 => .instr (.swr rt imm rs)
  | 0b110000#6 => .instr (.ll rt imm rs)
  | 0b110001#6 => .cop1
  | 0b110010#6 => .cop2Reserved
  | 0b110011#6 => .cop3
  | 0b110101#6 => .cop1
  | 0b110110#6 => .cop2Reserved
  | 0b110111#6 => .cop3
  | 0b111000#6 => .instr (.sc rt imm rs)
  | 0b111001#6 => .cop1
  | 0b111010#6 => .cop2Reserved
  | 0b111011#6 => .cop3
  | 0b111101#6 => .cop1
  | 0b111110#6 => .cop2Reserved
  | 0b111111#6 => .cop3
  | _ => .reserved

/-! ## Words as bytes in memory (R61 to R63) -/

/-- The bytes of a list, the first one most significant, as a word. -/
def joinBytesBig (l : List Byte) : Word :=
  l.foldl (fun acc b => (acc <<< 8) ||| b.setWidth 32) 0

/-- R62: the bytes read at rising addresses, assembled in the byte order and zero-extended. -/
def joinBytes : Endian → List Byte → Word
  | .big, l => joinBytesBig l
  | .little, l => joinBytesBig l.reverse

/-- R63: the `n` low bytes of a word as they are laid out at rising addresses. -/
def splitBytes (e : Endian) (n : Nat) (v : Word) : List Byte :=
  (List.range n).map fun k =>
    match e with
    | .big => v.extractLsb' (8 * (n - 1 - k)) 8
    | .little => v.extractLsb' (8 * k) 8

/-- The decoder from the four bytes of an instruction as memory holds them (R61, R90). -/
def decodeBytes (e : Endian) (bytes : List Byte) : Decoded :=
  decodeWord (joinBytes e bytes)

/-- The instruction the decoder reads from a table word: every instruction is one 32-bit word (R90), laid
out in the default byte order. -/
def decodeTableWord (nbits w : Nat) : Option Instr :=
  if nbits ≤ 32 then
    match decodeBytes Config.default.endian
        (splitBytes Config.default.endian 4 (BitVec.ofNat 32 (w % 2 ^ nbits))) with
    | .instr i => some i
    | _ => none
  else none

/-! ## The encoder -/

/-- Format R with opcode SPECIAL (R330). -/
def rWord (rs rt rd sa : BitVec 5) (funct : BitVec 6) : Word :=
  0b000000#6 ++ rs ++ rt ++ rd ++ sa ++ funct

/-- Format I, and REGIMM with its code in the `rt` field (R330). -/
def iWord (opcode : BitVec 6) (rs rt : BitVec 5) (imm : BitVec 16) : Word :=
  opcode ++ rs ++ rt ++ imm

/-- Format J (R330). -/
def jWord (opcode : BitVec 6) (target : BitVec 26) : Word :=
  opcode ++ target

/-- A conditional trap, register form (R431). -/
def trapWord (rs rt : BitVec 5) (code : BitVec 10) (funct : BitVec 6) : Word :=
  0b000000#6 ++ rs ++ rt ++ code ++ funct

/-- `syscall` and `break` (R444, R445). -/
def codeWord (code : BitVec 20) (funct : BitVec 6) : Word :=
  0b000000#6 ++ code ++ funct

/-- A word with major opcode COP2: formats V-OP and V-CR (R91, R92). -/
def vWord (format t r : BitVec 5) (opers : BitVec 1) (vw vd : BitVec 5) : Word :=
  0b010010#6 ++ format ++ t ++ r ++ opers ++ vw ++ vd

/-- The word of an instruction, from the `Encoding:` line of its rule. -/
def encode : Instr → Word
  | .cfvu rt cs => vWord 0b00010#5 rt cs 0b0#1 0b00000#5 0b00000#5
  | .ctvu rt cs => vWord 0b00110#5 rt cs 0b0#1 0b00000#5 0b00000#5
  | .vextV vd vt rd => vWord 0b10000#5 vt rd 0b0#1 0b01011#5 vd
  | .vinsS rt vd rd => vWord 0b10001#5 rt rd 0b0#1 0b10011#5 vd
  | .vextS rt vd rd => vWord 0b10001#5 rt rd 0b0#1 0b11011#5 vd
  | .lbaiV vd rd rt => vWord 0b10011#5 rt rd 0b0#1 0b00000#5 vd
  | .lhaiV vd rd rt => vWord 0b10011#5 rt rd 0b0#1 0b00001#5 vd
  | .lwaiV vd rd rt => vWord 0b10011#5 rt rd 0b0#1 0b00011#5 vd
  | .lbuaiV vd rd rt => vWord 0b10011#5 rt rd 0b0#1 0b00100#5 vd
  | .lhuaiV vd rd rt => vWord 0b10011#5 rt rd 0b0#1 0b00101#5 vd
  | .lbxV vd rd vt => vWord 0b10010#5 vt rd 0b0#1 0b10000#5 vd
  | .lhxV vd rd vt => vWord 0b10010#5 vt rd 0b0#1 0b10001#5 vd
  | .lwxV vd rd vt => vWord 0b10010#5 vt rd 0b0#1 0b10011#5 vd
  | .lbuxV vd rd vt => vWord 0b10010#5 vt rd 0b0#1 0b10100#5 vd
  | .lhuxV vd rd vt => vWord 0b10010#5 vt rd 0b0#1 0b10101#5 vd
  | .lbstV vd rd rt => vWord 0b10011#5 rt rd 0b0#1 0b10000#5 vd
  | .lhstV vd rd rt => vWord 0b10011#5 rt rd 0b0#1 0b10001#5 vd
  | .lwstV vd rd rt => vWord 0b10011#5 rt rd 0b0#1 0b10011#5 vd
  | .lbustV vd rd rt => vWord 0b10011#5 rt rd 0b0#1 0b10100#5 vd
  | .lhustV vd rd rt => vWord 0b10011#5 rt rd 0b0#1 0b10101#5 vd
  | .sbaiV vd rd rt => vWord 0b10011#5 rt rd 0b0#1 0b01000#5 vd
  | .shaiV vd rd rt => vWord 0b10011#5 rt rd 0b0#1 0b01001#5 vd
  | .swaiV vd rd rt => vWord 0b10011#5 rt rd 0b0#1 0b01011#5 vd
  | .sbxV vd rd vt => vWord 0b10010#5 vt rd 0b0#1 0b11000#5 vd
  | .shxV vd rd vt => vWord 0b10010#5 vt rd 0b0#1 0b11001#5 vd
  | .swxV vd rd vt => vWord 0b10010#5 vt rd 0b0#1 0b11011#5 vd
  | .sbstV vd rd rt => vWord 0b10011#5 rt rd 0b0#1 0b11000#5 vd
  | .shstV vd rd rt => vWord 0b10011#5 rt rd 0b0#1 0b11001#5 vd
  | .swstV vd rd rt => vWord 0b10011#5 rt rd 0b0#1 0b11011#5 vd
  | .andVV vw vd vt => vWord 0b10100#5 vt 0b10100#5 0b0#1 vw vd
  | .andVS vw vd rt => vWord 0b10101#5 rt 0b10100#5 0b0#1 vw vd
  | .orVV vw vd vt => vWord 0b10100#5 vt 0b10101#5 0b0#1 vw vd
  | .orVS vw vd rt => vWord 0b10101#5 rt 0b10101#5 0b0#1 vw vd
  | .xorVV vw vd vt => vWord 0b10100#5 vt 0b10110#5 0b0#1 vw vd
  | .xorVS vw vd rt => vWord 0b10101#5 rt 0b10110#5 0b0#1 vw vd
  | .norVV vw vd vt => vWord 0b10100#5 vt 0b10111#5 0b0#1 vw vd
  | .norVS vw vd rt => vWord 0b10101#5 rt 0b10111#5 0b0#1 vw vd
  | .addVV vw vd vt => vWord 0b10100#5 vt 0b10000#5 0b0#1 vw vd
  | .addVS vw vd rt => vWord 0b10101#5 rt 0b10000#5 0b0#1 vw vd
  | .adduVV vw vd vt => vWord 0b10100#5 vt 0b10001#5 0b0#1 vw vd
  | .adduVS vw vd rt => vWord 0b10101#5 rt 0b10001#5 0b0#1 vw vd
  | .subVV vw vd vt => vWord 0b10100#5 vt 0b00000#5 0b0#1 vw vd
  | .subVS vw vd rt => vWord 0b10101#5 rt 0b00000#5 0b0#1 vw vd
  | .subSV vw rt vd => vWord 0b10101#5 rt 0b00000#5 0b1#1 vw vd
  | .subuVV vw vd vt => vWord 0b10100#5 vt 0b00001#5 0b0#1 vw vd
  | .subuVS vw vd rt => vWord 0b10101#5 rt 0b00001#5 0b0#1 vw vd
  | .subuSV vw rt vd => vWord 0b10101#5 rt 0b00001#5 0b1#1 vw vd
  | .sllvVV vw vd vt => vWord 0b10100#5 vt 0b01000#5 0b0#1 vw vd
  | .sllvVS vw vd rt => vWord 0b10101#5 rt 0b01000#5 0b0#1 vw vd
  | .sllvSV vw rt vd => vWord 0b10101#5 rt 0b01000#5 0b1#1 vw vd
  | .sravVV vw vd vt => vWord 0b10100#5 vt 0b01011#5 0b0#1 vw vd
  | .sravVS vw vd rt => vWord 0b10101#5 rt 0b01011#5 0b0#1 vw vd
  | .sravSV vw rt vd => vWord 0b10101#5 rt 0b01011#5 0b1#1 vw vd
  | .srlvVV vw vd vt => vWord 0b10100#5 vt 0b01001#5 0b0#1 vw vd
  | .srlvVS vw vd rt => vWord 0b10101#5 rt 0b01001#5 0b0#1 vw vd
  | .srlvSV vw rt vd => vWord 0b10101#5 rt 0b01001#5 0b1#1 vw vd
  | .sltVV vw vd vt => vWord 0b10100#5 vt 0b01100#5 0b0#1 vw vd
  | .sltVS vw vd rt => vWord 0b10101#5 rt 0b01100#5 0b0#1 vw vd
  | .sltSV vw rt vd => vWord 0b10101#5 rt 0b01100#5 0b1#1 vw vd
  | .sltuVV vw vd vt => vWord 0b10100#5 vt 0b01101#5 0b0#1 vw vd
  | .sltuVS vw vd rt => vWord 0b10101#5 rt 0b01101#5 0b0#1 vw vd
  | .sltuSV vw rt vd => vWord 0b10101#5 rt 0b01101#5 0b1#1 vw vd
  | .seqVV vw vd vt => vWord 0b10100#5 vt 0b01110#5 0b0#1 vw vd
  | .seqVS vw vd rt => vWord 0b10101#5 rt 0b01110#5 0b0#1 vw vd
  | .fltVV vd vt => vWord 0b10100#5 vt 0b00100#5 0b0#1 0b00000#5 vd
  | .fltVS vd rt => vWord 0b10101#5 rt 0b00100#5 0b0#1 0b00000#5 vd
  | .fltSV rt vd => vWord 0b10101#5 rt 0b00100#5 0b1#1 0b00000#5 vd
  | .fltuVV vd vt => vWord 0b10100#5 vt 0b00101#5 0b0#1 0b00000#5 vd
  | .fltuVS vd rt => vWord 0b10101#5 rt 0b00101#5 0b0#1 0b00000#5 vd
  | .fltuSV rt vd => vWord 0b10101#5 rt 0b00101#5 0b1#1 0b00000#5 vd
  | .feqVV vd vt => vWord 0b10100#5 vt 0b00110#5 0b0#1 0b00000#5 vd
  | .feqVS vd rt => vWord 0b10101#5 rt 0b00110#5 0b0#1 0b00000#5 vd
  | .cmvnezVV vw vd vt => vWord 0b10100#5 vt 0b11001#5 0b0#1 vw vd
  | .cmvgezVV vw vd vt => vWord 0b10100#5 vt 0b11010#5 0b0#1 vw vd
  | .cmvlezVV vw vd vt => vWord 0b10100#5 vt 0b11011#5 0b0#1 vw vd
  | .cmveqzVV vw vd vt => vWord 0b10100#5 vt 0b11101#5 0b0#1 vw vd
  | .cmvltzVV vw vd vt => vWord 0b10100#5 vt 0b11110#5 0b0#1 vw vd
  | .cmvgtzVV vw vd vt => vWord 0b10100#5 vt 0b11111#5 0b0#1 vw vd
  | .cmvnezVS vw vd rt => vWord 0b10101#5 rt 0b11001#5 0b0#1 vw vd
  | .cmvgezVS vw vd rt => vWord 0b10101#5 rt 0b11010#5 0b0#1 vw vd
  | .cmvlezVS vw vd rt => vWord 0b10101#5 rt 0b11011#5 0b0#1 vw vd
  | .cmveqzVS vw vd rt => vWord 0b10101#5 rt 0b11101#5 0b0#1 vw vd
  | .cmvltzVS vw vd rt => vWord 0b10101#5 rt 0b11110#5 0b0#1 vw vd
  | .cmvgtzVS vw vd rt => vWord 0b10101#5 rt 0b11111#5 0b0#1 vw vd
  | .fxaddVV vw vd vt rd => vWord 0b11000#5 vt rd 0b0#1 vw vd
  | .fxaddVS vw vd rt rd => vWord 0b11001#5 rt rd 0b0#1 vw vd
  | .fxaddSV vw rt vd rd => vWord 0b11001#5 rt rd 0b1#1 vw vd
  | .fxsubVV vw vd vt rd => vWord 0b11010#5 vt rd 0b0#1 vw vd
  | .fxsubVS vw vd rt rd => vWord 0b11011#5 rt rd 0b0#1 vw vd
  | .fxsubSV vw rt vd rd => vWord 0b11011#5 rt rd 0b1#1 vw vd
  | .fxmulVV vw vd vt rd => vWord 0b11100#5 vt rd 0b0#1 vw vd
  | .fxmulVS vw vd rt rd => vWord 0b11101#5 rt rd 0b0#1 vw vd
  | .fxmulSV vw rt vd rd => vWord 0b11101#5 rt rd 0b1#1 vw vd
  | .add rd rs rt => rWord rs rt rd 0b00000#5 0b100000#6
  | .addu rd rs rt => rWord rs rt rd 0b00000#5 0b100001#6
  | .sub rd rs rt => rWord rs rt rd 0b00000#5 0b100010#6
  | .subu rd rs rt => rWord rs rt rd 0b00000#5 0b100011#6
  | .and rd rs rt => rWord rs rt rd 0b00000#5 0b100100#6
  | .or rd rs rt => rWord rs rt rd 0b00000#5 0b100101#6
  | .xor rd rs rt => rWord rs rt rd 0b00000#5 0b100110#6
  | .nor rd rs rt => rWord rs rt rd 0b00000#5 0b100111#6
  | .slt rd rs rt => rWord rs rt rd 0b00000#5 0b101010#6
  | .sltu rd rs rt => rWord rs rt rd 0b00000#5 0b101011#6
  | .addi rt rs imm => iWord 0b001000#6 rs rt imm
  | .addiu rt rs imm => iWord 0b001001#6 rs rt imm
  | .slti rt rs imm => iWord 0b001010#6 rs rt imm
  | .sltiu rt rs imm => iWord 0b001011#6 rs rt imm
  | .andi rt rs imm => iWord 0b001100#6 rs rt imm
  | .ori rt rs imm => iWord 0b001101#6 rs rt imm
  | .xori rt rs imm => iWord 0b001110#6 rs rt imm
  | .lui rt imm => iWord 0b001111#6 0b00000#5 rt imm
  | .sll rd rt sa => rWord 0b00000#5 rt rd sa 0b000000#6
  | .srl rd rt sa => rWord 0b00000#5 rt rd sa 0b000010#6
  | .sra rd rt sa => rWord 0b00000#5 rt rd sa 0b000011#6
  | .sllv rd rt rs => rWord rs rt rd 0b00000#5 0b000100#6
  | .srlv rd rt rs => rWord rs rt rd 0b00000#5 0b000110#6
  | .srav rd rt rs => rWord rs rt rd 0b00000#5 0b000111#6
  | .mult rs rt => rWord rs rt 0b00000#5 0b00000#5 0b011000#6
  | .multu rs rt => rWord rs rt 0b00000#5 0b00000#5 0b011001#6
  | .div rs rt => rWord rs rt 0b00000#5 0b00000#5 0b011010#6
  | .divu rs rt => rWord rs rt 0b00000#5 0b00000#5 0b011011#6
  | .mfhi rd => rWord 0b00000#5 0b00000#5 rd 0b00000#5 0b010000#6
  | .mthi rs => rWord rs 0b00000#5 0b00000#5 0b00000#5 0b010001#6
  | .mflo rd => rWord 0b00000#5 0b00000#5 rd 0b00000#5 0b010010#6
  | .mtlo rs => rWord rs 0b00000#5 0b00000#5 0b00000#5 0b010011#6
  | .lb rt imm rs => iWord 0b100000#6 rs rt imm
  | .lbu rt imm rs => iWord 0b100100#6 rs rt imm
  | .lh rt imm rs => iWord 0b100001#6 rs rt imm
  | .lhu rt imm rs => iWord 0b100101#6 rs rt imm
  | .lw rt imm rs => iWord 0b100011#6 rs rt imm
  | .lwl rt imm rs => iWord 0b100010#6 rs rt imm
  | .lwr rt imm rs => iWord 0b100110#6 rs rt imm
  | .sb rt imm rs => iWord 0b101000#6 rs rt imm
  | .sh rt imm rs => iWord 0b101001#6 rs rt imm
  | .sw rt imm rs => iWord 0b101011#6 rs rt imm
  | .swl rt imm rs => iWord 0b101010#6 rs rt imm
  | .swr rt imm rs => iWord 0b101110#6 rs rt imm
  | .ll rt imm rs => iWord 0b110000#6 rs rt imm
  | .sc rt imm rs => iWord 0b111000#6 rs rt imm
  | .sync => rWord 0b00000#5 0b00000#5 0b00000#5 0b00000#5 0b001111#6
  | .beq rs rt imm => iWord 0b000100#6 rs rt imm
  | .bne rs rt imm => iWord 0b000101#6 rs rt imm
  | .blez rs imm => iWord 0b000110#6 rs 0b00000#5 imm
  | .bgtz rs imm => iWord 0b000111#6 rs 0b00000#5 imm
  | .bltz rs imm => iWord 0b000001#6 rs 0b00000#5 imm
  | .bgez rs imm => iWord 0b000001#6 rs 0b00001#5 imm
  | .bltzal rs imm => iWord 0b000001#6 rs 0b10000#5 imm
  | .bgezal rs imm => iWord 0b000001#6 rs 0b10001#5 imm
  | .beql rs rt imm => iWord 0b010100#6 rs rt imm
  | .bnel rs rt imm => iWord 0b010101#6 rs rt imm
  | .blezl rs imm => iWord 0b010110#6 rs 0b00000#5 imm
  | .bgtzl rs imm => iWord 0b010111#6 rs 0b00000#5 imm
  | .bltzl rs imm => iWord 0b000001#6 rs 0b00010#5 imm
  | .bgezl rs imm => iWord 0b000001#6 rs 0b00011#5 imm
  | .bltzall rs imm => iWord 0b000001#6 rs 0b10010#5 imm
  | .bgezall rs imm => iWord 0b000001#6 rs 0b10011#5 imm
  | .j target => jWord 0b000010#6 target
  | .jal target => jWord 0b000011#6 target
  | .jr rs => rWord rs 0b00000#5 0b00000#5 0b00000#5 0b001000#6
  | .jalr rd rs => rWord rs 0b00000#5 rd 0b00000#5 0b001001#6
  | .tge rs rt code => trapWord rs rt code 0b110000#6
  | .tgeu rs rt code => trapWord rs rt code 0b110001#6
  | .tlt rs rt code => trapWord rs rt code 0b110010#6
  | .tltu rs rt code => trapWord rs rt code 0b110011#6
  | .teq rs rt code => trapWord rs rt code 0b110100#6
  | .tne rs rt code => trapWord rs rt code 0b110110#6
  | .tgei rs imm => iWord 0b000001#6 rs 0b01000#5 imm
  | .tgeiu rs imm => iWord 0b000001#6 rs 0b01001#5 imm
  | .tlti rs imm => iWord 0b000001#6 rs 0b01010#5 imm
  | .tltiu rs imm => iWord 0b000001#6 rs 0b01011#5 imm
  | .teqi rs imm => iWord 0b000001#6 rs 0b01100#5 imm
  | .tnei rs imm => iWord 0b000001#6 rs 0b01110#5 imm
  | .syscall code => codeWord code 0b001100#6
  | .brk code => codeWord code 0b001101#6

end Sys2Proof
end

