-- ==== Sys2Proof/Machine/State.lean ====
section
/-! DEFINITION. The state of the machine, as plain data: everything spec 10_state.md gives it, the trap record
(60_exceptions.md R470), the ordering list of 20_memory.md R73, the launch state of 70_reset_and_hazards.md
R491, and the run parameters of 00_scope.md R7. Registers are read and written by the operations of
Machine/Ops.lean, which hold the hard-wired zeros. -/

namespace Sys2Proof.Machine

/-! ## Exceptions -/

/-- The causes of an exception (R450 to R462). -/
inductive Cause where
  /-- Reserved instruction (R451). -/
  | reservedInstruction
  /-- Coprocessor unusable (R452). -/
  | coprocessorUnusable
  /-- Vector operation (R453). -/
  | vectorOperation
  /-- Vector address (R454). -/
  | vectorAddress
  /-- Address error on a load or an instruction fetch, `AdEL` (R455). -/
  | addressErrorLoad
  /-- Address error on a store, `AdES` (R455). -/
  | addressErrorStore
  /-- Integer overflow (R456). -/
  | integerOverflow
  /-- Trap (R457). -/
  | trap
  /-- System call (R458). -/
  | systemCall
  /-- Breakpoint (R459). -/
  | breakpoint
deriving DecidableEq, Repr

/-- The cause codes of the table of 60_exceptions.md section 2; the two vector exceptions have none. -/
def Cause.code : Cause → Option Nat
  | .reservedInstruction => some 10
  | .coprocessorUnusable => some 11
  | .vectorOperation => none
  | .vectorAddress => none
  | .addressErrorLoad => some 4
  | .addressErrorStore => some 5
  | .integerOverflow => some 12
  | .trap => some 13
  | .systemCall => some 8
  | .breakpoint => some 9

/-- What an exception records in `trap.info` (the table of 60_exceptions.md section 2). -/
inductive TrapInfo where
  /-- Nothing. -/
  | none
  /-- The instruction word. -/
  | word (w : Word)
  /-- The number of the coprocessor. -/
  | unit (z : Nat)
  /-- The misaligned address. -/
  | address (a : Word)
deriving DecidableEq, Repr

/-- The trap record (R42, R470). -/
structure Trap where
  cause : Cause
  /-- The address of the instruction, or of the branch whose delay slot it is in. -/
  epc : Word
  /-- Whether the instruction was in a branch delay slot. -/
  bd : Bool
  info : TrapInfo
deriving DecidableEq, Repr

/-! ## Memory -/

/-- Memory as the list of its bytes that are not 0, at strictly rising addresses (log 7). -/
abbrev Memory := List Host.Cell

/-- A byte range of the launch memory with its permissions (R79, R491). -/
structure Region where
  base : Nat
  size : Nat
  readable : Bool
  writable : Bool
  executable : Bool
deriving DecidableEq, Repr

/-- A byte range of the program text (R77, R491). -/
structure Span where
  base : Nat
  size : Nat
deriving DecidableEq, Repr

/-- The unit that makes a memory access (R73). -/
inductive MemUnit where
  | scalar
  | vector
deriving DecidableEq, Repr

/-- The kind of a memory access (R73). -/
inductive AccessKind where
  | read
  | write
deriving DecidableEq, Repr

/-- A record of the `unsynced` list: one memory instruction (R73). -/
structure AccessRecord where
  unit : MemUnit
  kind : AccessKind
  /-- The byte addresses the instruction accessed. -/
  bytes : List Nat
deriving DecidableEq, Repr

/-! ## Faults and refusals -/

/-- How a step gets stuck: no rule of the spec gives a next state, and no exception is raised. -/
inductive Fault where
  /-- Raised by `step` when the trap record is set: the run has ended (R470, R494 a). Safe. -/
  | runEnded
  /-- Raised by the instruction fetch when `pc` is outside the program text or not executable: there is no
  word to fetch (R494 b, R79). Safe. -/
  | outsideText
  /-- Raised by a scalar or vector access to a byte that the launch memory lacks or does not permit (R79,
  R81). Safe. -/
  | noSuchByte
deriving DecidableEq, Repr

/-- Why an instruction or a word is refused: the spec gives it no effect. Each is safe: the model stops
where some hardware may go on. -/
inductive Refusal where
  /-- An instruction without a meaning in this model; none is left. Safe. -/
  | notModelled (mnemonic : String)
  /-- `cfvu`, `ctvu` of a number that is no control register: unpredictable (R123). Safe. -/
  | invalidControlRegister
  /-- `ctvu` of `vrev` or `vcount` (R125). Safe. -/
  | readOnlyControlRegister
  /-- An auto-increment instruction with `rd = rt`: undefined (R145). Safe. -/
  | autoIncrementSameRegister
  /-- `vext.v` with `vlr = 0` and an index above 32: whether the range test is made is not stated (R133). Safe. -/
  | extractRangeUnstated
  /-- `vext.v` whose sum of `vlr` and index wraps past 8 bits and passes the range test (R134). Safe. -/
  | extractIndexWrap
  /-- A unit-stride access with `vlr = 0` and a misaligned base: whether the base is tested is not stated (R142,
  R144). Safe. -/
  | emptyAccessMisaligned
  /-- A fixed-point instruction with `clipam = 11`, where `CLIPAM3` says to refuse it (R263, R485). Safe. -/
  | clipAmount3
  /-- A fixed-point instruction with an unused configuration bit set, where `T0_CFG_BITS` says to refuse it (R262,
  R485). Safe. -/
  | unusedConfigurationBits
  /-- `fxmul` on T0 with `shlza`, `shlv`, `shrv` or `lures` set: no behaviour is given (R312). Safe. -/
  | t0FieldMustBeZero
  /-- `sc` to an address other than the one `ll` linked (R405). Safe. -/
  | scAddressMismatch
  /-- A branch or jump in a branch delay slot: undefined (R410). Safe. -/
  | branchInDelaySlot
  /-- `jalr` with `rd = rs`, a branch-and-link with `rs = 31`: not allowed (R417, R418, R425, R426,
  R430). Safe. -/
  | linkRegisterIsSource
  /-- `mult`, `multu`, `div`, `divu`, `mthi`, `mtlo` within two instructions of `mfhi` or `mflo` (R368,
  R503). Safe. -/
  | hiLoHazard
  /-- A memory instruction that conflicts with an earlier one since the last `sync`, when `SYNC_REQUIRED`
  (R73). Safe. -/
  | unsynchronisedConflict
  /-- A store to a byte of the program text (R77). Safe. -/
  | storeToProgramText
  /-- A scalar word with a must-be-zero field that is not zero (R334). Safe. -/
  | mustBeZeroField
  /-- A coprocessor-0 word: the contents of CP0 are implementation dependent (R446). Safe. -/
  | coprocessor0
  /-- A coprocessor-1 word when `HAS_FPU`: the floating point instructions are in no source (R447). Safe. -/
  | floatingPointUnspecified
deriving DecidableEq, Repr

/-! ## The state -/

/-- The machine's state. -/
structure State where
  /-- The run parameters (R7). -/
  cfg : Config
  /-- The scalar registers (R20, R21); cell 0 is never seen. -/
  gpr : Vector Word 32
  /-- `HI` (R22). -/
  hi : Word
  /-- `LO` (R22). -/
  lo : Word
  /-- Instructions executed since the last `mfhi` or `mflo`, 2 standing for two or more (R503). -/
  sinceHiLo : Nat
  /-- The address of the instruction being executed (R23). -/
  pc : Word
  /-- The address of the next instruction (R23, R410). -/
  npc : Word
  /-- Whether the instruction at `pc` is in a branch delay slot (R23, R410). -/
  inDelaySlot : Bool
  /-- `LLbit` (R24). -/
  llBit : Bool
  /-- `LLaddr` (R24). -/
  llAddr : Word
  /-- The vector registers, element by element (R26); register 0 is never seen. -/
  vr : Vector (Vector Word 32) 32
  /-- `vcount` at its last read (R34). -/
  vcount : Word
  /-- `vlr` (R35). -/
  vlr : Byte
  /-- `vcond`, bit `i` for element `i` (R36). -/
  vcond : Word
  /-- `vovf` (R37). -/
  vovf : Word
  /-- `vsat` (R38). -/
  vsat : Word
  /-- `CU1` (R40). -/
  cu1 : Bool
  /-- `CU2` (R40). -/
  cu2 : Bool
  /-- Memory (R43, R60). -/
  mem : Memory
  /-- The launch memory (R79, R491). -/
  map : List Region
  /-- The program text (R77, R491). -/
  text : List Span
  /-- The memory instructions since the last `sync` (R45, R73). -/
  unsynced : List AccessRecord
  /-- The trap record (R42). -/
  trap : Option Trap
  /-- How many free values the run has drawn: the model's own field (log 13). -/
  draws : Nat
deriving DecidableEq, Repr

/-- The outcome of an instruction or of a step. -/
abbrev Result := Host.Outcome State Fault Refusal

/-- The program counter at reset (DESIGN CHOICE, log 4). -/
def resetPc : Word := 0x00000400

/-- The state right after reset. The spec gives `trap`, `unsynced`, `in_delay_slot`, `npc = pc + 4`, `CU1`
and `CU2` (R46, R491); every other value is the model's (logs 1 to 8, 10). -/
def State.reset : State where
  cfg := Config.default
  gpr := Vector.replicate 32 0
  hi := 0
  lo := 0
  sinceHiLo := 2
  pc := resetPc
  npc := resetPc + 4
  inDelaySlot := false
  llBit := false
  llAddr := 0
  vr := Vector.replicate 32 (Vector.replicate 32 0)
  vcount := 0
  vlr := 0
  vcond := 0
  vovf := 0
  vsat := 0
  cu1 := false
  cu2 := true
  mem := []
  map := [⟨0, 2 ^ 32, true, true, true⟩]
  text := []
  unsynced := []
  trap := none
  draws := 0

end Sys2Proof.Machine
end

