-- ==== Sys2Proof/Machine/Ops.lean ====
section
/-! DEFINITION. The named operations over registers, memory, the program counter and the trap record: the
primitives of 00_scope.md R12, and nothing else, touch the state. -/

namespace Sys2Proof.Machine

/-! ## Registers -/

/-- `x[i]`: register 0 reads as zero (R20, R21). -/
def State.x (s : State) (r : Reg) : Word :=
  if r = 0 then 0 else s.gpr[r.toNat]

/-- `x[i] <- w`: a write to register 0 is dropped (R21). -/
def State.setX (s : State) (r : Reg) (w : Word) : State :=
  { s with gpr := if r = 0 then s.gpr else s.gpr.set r.toNat w }

/-- `v[j][i]` for an element number below `MVL`: register 0 reads as zero (R26, R27). No rule reads an
element at or above `MVL`. -/
def State.v (s : State) (j : VReg) (i : Nat) : Word :=
  if j = 0 then 0 else s.vr[j.toNat][i]?.getD 0

/-- A vector register with `f i` in every element `i` that `p` selects. -/
def updateElements (u : Vector Word 32) (p : Nat → Bool) (f : Nat → Word) : Vector Word 32 :=
  Vector.ofFn fun i : Fin 32 => if p i.val then f i.val else u[i.val]

/-- `v[j][i] <- f i` for every element `i` that `p` selects; a write to register 0 is dropped (R27). All
values are computed from the state before. -/
def State.setVWhere (s : State) (j : VReg) (p : Nat → Bool) (f : Nat → Word) : State :=
  { s with vr := if j = 0 then s.vr else s.vr.set j.toNat (updateElements s.vr[j.toNat] p f) }

/-- The first `n` elements of a vector register are written, the others keep their values (R30). -/
def State.setV (s : State) (j : VReg) (n : Nat) (f : Nat → Word) : State :=
  s.setVWhere j (fun i => decide (i < n)) f

/-- `vrev` (R33): zero, implementation number, revision number. -/
def State.vrev (s : State) : Word :=
  0#16 ++ s.cfg.vrevImp ++ s.cfg.vrevRev

/-! ## Free values (log 13) -/

/-- The free value number `k` of the instruction. -/
def State.free (s : State) (k : Nat) : Word :=
  Config.freeWord (s.draws + k)

/-- A free choice between two outcomes. -/
def State.freeBit (s : State) (k : Nat) : Bool :=
  (s.free k).getLsbD 0

/-- The state after an instruction that has drawn `n` free values. -/
def State.drawn (s : State) (n : Nat) : State :=
  { s with draws := s.draws + n }

/-! ## The program counter (R410) -/

/-- The count of instructions since `mfhi` or `mflo` after one more, 2 standing for two or more (R503). -/
def tickHiLo (n : Nat) : Nat :=
  if n < 2 then n + 1 else 2

/-- "pc <- pc + 4", the sequential advance of every instruction that is not a branch or jump. -/
def State.advance (s : State) : State :=
  { s with pc := s.npc, npc := s.npc + 4, inDelaySlot := false, sinceHiLo := tickHiLo s.sinceHiLo }

/-- "branch to T": the next instruction is the delay slot. -/
def State.branchTo (s : State) (target : Word) : State :=
  { s with pc := s.npc, npc := target, inDelaySlot := true, sinceHiLo := tickHiLo s.sinceHiLo }

/-- "fall through": an ordinary branch not taken; the next instruction is still its delay slot. -/
def State.fallThrough (s : State) : State :=
  { s with pc := s.npc, npc := s.npc + 4, inDelaySlot := true, sinceHiLo := tickHiLo s.sinceHiLo }

/-- "nullify": a branch-likely not taken; the delay slot is not executed (R409). -/
def State.nullify (s : State) : State :=
  { s with pc := s.npc + 4, npc := s.npc + 8, inDelaySlot := false,
           sinceHiLo := tickHiLo s.sinceHiLo }

/-! ## Taking an exception (R470, R471) -/

/-- The trap record of an exception raised in a state. -/
def State.trapRecord (s : State) (cause : Cause) (info : TrapInfo) : Trap where
  cause := cause
  epc := if s.inDelaySlot then s.pc - 4 else s.pc
  bd := s.inDelaySlot
  info := info

/-- The state after `raise`: only the trap record is written; the run has ended. -/
def State.trapped (s : State) (cause : Cause) (info : TrapInfo) : State :=
  { s with trap := some (s.trapRecord cause info) }

/-- `raise E(info)`. A trap is terminal and there is no return from one (R470, R472, log 9). -/
def State.raise (s : State) (cause : Cause) (info : TrapInfo) : Result :=
  .next (s.trapped cause info)

/-- `raise CoprocessorUnusable(z)` (R452). -/
def State.raiseCpU (s : State) (z : Nat) : Result :=
  s.raise .coprocessorUnusable (.unit z)

/-! ## Memory -/

/-- The byte at an address; an unlisted byte reads 0 (DESIGN CHOICE, log 7). -/
def Memory.read : Memory → Nat → Byte
  | [], _ => 0
  | (b, w) :: m, a => if b = a then w else Memory.read m a

/-- Writes one byte, keeping the list strictly rising and without zero bytes. -/
def Memory.write : Memory → Nat → Byte → Memory
  | [], a, w => if w = 0 then [] else [(a, w)]
  | (b, u) :: m, a, w =>
    if a < b then (if w = 0 then (b, u) :: m else (a, w) :: (b, u) :: m)
    else if a = b then (if w = 0 then m else (a, w) :: m)
    else (b, u) :: Memory.write m a w

/-- Writes bytes one after another. -/
def Memory.writeAll (m : Memory) (cells : List Host.Cell) : Memory :=
  cells.foldl (fun m c => Memory.write m c.1 c.2) m

/-- The canonical form from a lower bound on: rising addresses of the space of 2^32 bytes, no zero byte. -/
def Memory.wfFrom : Nat → Memory → Bool
  | _, [] => true
  | lo, (a, w) :: m => decide (lo ≤ a) && decide (a < 2 ^ 32) && w != 0 && Memory.wfFrom (a + 1) m

/-- The canonical form of memory. -/
def Memory.wf (m : Memory) : Bool :=
  Memory.wfFrom 0 m

/-- The addresses of the `n` bytes at an address, modulo 2^32 (R62). -/
def byteAddrs (a : Word) (n : Nat) : List Nat :=
  (List.range n).map fun k => (a.toNat + k) % 2 ^ 32

/-- `MemRead(addr, n)`, zero-extended to 32 bits (R62). -/
def State.memRead (s : State) (a : Word) (n : Nat) : Word :=
  joinBytes s.cfg.endian ((byteAddrs a n).map s.mem.read)

/-- The bytes that `MemWrite(addr, n, v)` writes (R63). -/
def storeCells (e : Endian) (a : Word) (n : Nat) (v : Word) : List Host.Cell :=
  (byteAddrs a n).zip (splitBytes e n v)

/-- The state after bytes are written. -/
def State.writeCells (s : State) (cells : List Host.Cell) : State :=
  { s with mem := s.mem.writeAll cells }

/-- Whether the launch memory has the byte and permits the access (R79). -/
def State.mapped (s : State) (kind : AccessKind) (a : Nat) : Bool :=
  s.map.any fun g =>
    decide (g.base ≤ a) && decide (a < g.base + g.size) &&
      (match kind with
       | .read => g.readable
       | .write => g.writable)

/-- Whether the launch memory has the byte and permits fetching it (R79). -/
def State.executable (s : State) (a : Nat) : Bool :=
  s.map.any fun g => decide (g.base ≤ a) && decide (a < g.base + g.size) && g.executable

/-- Whether a byte belongs to the program text (R77). -/
def State.inText (s : State) (a : Nat) : Bool :=
  s.text.any fun g => decide (g.base ≤ a) && decide (a < g.base + g.size)

/-- Whether a new memory instruction conflicts with an earlier one: a common byte, a write, not both of the
scalar unit (R73). -/
def AccessRecord.conflicts (old new : AccessRecord) : Bool :=
  (old.bytes.any fun a => new.bytes.contains a) &&
    (old.kind == .write || new.kind == .write) &&
    !(old.unit == .scalar && new.unit == .scalar)

/-- Whether R73 refuses a new memory instruction. -/
def State.unsyncedConflict (s : State) (new : AccessRecord) : Bool :=
  s.cfg.syncRequired && s.unsynced.any fun old => old.conflicts new

/-- The `unsynced` list with a new record; it is kept only when `SYNC_REQUIRED` (R73). -/
def State.recordAccess (s : State) (new : AccessRecord) : State :=
  { s with unsynced := if s.cfg.syncRequired then s.unsynced ++ [new] else s.unsynced }

/-- What every memory instruction passes before its transfer: the ordering discipline (R73), the immutable
program text (R77), the launch memory (R79, R81). The order of these stops is the model's. -/
def State.access (s : State) (new : AccessRecord) (k : State → Result) : Result :=
  if s.unsyncedConflict new then .refused .unsynchronisedConflict
  else if new.kind == .write && new.bytes.any s.inText then .refused .storeToProgramText
  else if !new.bytes.all (s.mapped new.kind) then .fault .noSuchByte
  else k (s.recordAccess new)

/-! ## What every vector instruction does first -/

/-- `VectorPrologue()` (R100): coprocessor 2 usable, every vector register present, `vlr` at most `MVL`; then
the instruction's own rule with `n`, the value of `vlr`. -/
def State.vectorPrologue (s : State) (i : Instr) (regs : List VReg) (k : Nat → Result) : Result :=
  if !s.cu2 then s.raiseCpU 2
  else if regs.any (fun j => decide (s.cfg.nvreg ≤ j.toNat)) then
    s.raise .reservedInstruction (.word (encode i))
  else if mvl < s.vlr.toNat then s.raise .vectorOperation (.word (encode i))
  else k s.vlr.toNat

end Sys2Proof.Machine
end

