-- ==== Sys2Proof/Machine/Operands.lean ====
section
/-! DEFINITION. The operand forms: immediates (47_scalar_compute.md R331), effective addresses of scalar and
vector memory instructions (20_memory.md R67, 48 R391), branch and jump targets (48 R408), the operands of
vector instructions (43 R180, 45 R265), and the element index of the insert and extract instructions (41
R132). -/

namespace Sys2Proof.Machine

/-! ## Immediates and widths -/

/-- `sext_32(imm)` (R331). -/
def signExt16 (imm : BitVec 16) : Word := imm.signExtend 32

/-- `zext_32(imm)` (R331). -/
def zeroExt16 (imm : BitVec 16) : Word := imm.setWidth 32

/-- `imm || 0x0000` of `lui` (R331). -/
def upper16 (imm : BitVec 16) : Word := imm ++ 0#16

/-- The low five bits of a register, as a shift amount (R185, R357). -/
def shiftAmount (w : Word) : Nat := (w.extractLsb' 0 5).toNat

/-- A boolean result as the integer 1 or 0 (R220, R344). -/
def boolWord (b : Bool) : Word := if b then 1 else 0

/-- The size of a memory access (R60, R64). -/
inductive Size where
  | byte
  | half
  | word
deriving DecidableEq, Repr

/-- `elsize` (R60, R141). -/
def Size.bytes : Size → Nat
  | .byte => 1
  | .half => 2
  | .word => 4

/-- How a load extends to 32 bits (R64, R146). -/
inductive Extension where
  | sign
  | zero
deriving DecidableEq, Repr

/-- The 32-bit value of a loaded item, from its zero-extended bits (R64). -/
def extendLoaded : Extension → Size → Word → Word
  | .sign, .byte, w => (w.setWidth 8).signExtend 32
  | .sign, .half, w => (w.setWidth 16).signExtend 32
  | _, _, w => w

/-- Whether an address is a multiple of the access size (R65, R391). -/
def aligned (size : Size) (a : Word) : Bool :=
  a.toNat % size.bytes == 0

/-! ## Addresses and targets -/

/-- The effective address of a scalar load or store (R391). -/
def State.scalarAddr (s : State) (base : Reg) (imm : BitVec 16) : Word :=
  s.x base + signExt16 imm

/-- The target of a conditional branch, relative to the delay slot (R408). -/
def State.branchTarget (s : State) (imm : BitVec 16) : Word :=
  s.pc + 4 + (imm ++ 0#2 : BitVec 18).signExtend 32

/-- The target of `j` and `jal`, in the region of the delay slot (R408). -/
def State.jumpTarget (s : State) (target : BitVec 26) : Word :=
  (s.pc + 4).extractLsb' 28 4 ++ target ++ 0#2

/-- The link address, after the delay slot (R408). -/
def State.linkAddr (s : State) : Word :=
  s.pc + 8

/-- The addressing modes of the vector memory instructions with their register operands (R67, R141). -/
inductive VecMode where
  /-- Unit-stride from `rd`, with the post-increment `rt`. -/
  | unit (rd rt : Reg)
  /-- Strided from `rd` by the byte stride `rt`. -/
  | strided (rd rt : Reg)
  /-- Indexed from `rd` by the byte offsets of `vt`. -/
  | indexed (rd : Reg) (vt : VReg)
deriving DecidableEq, Repr

/-- `EA(i)` (R67), modulo 2^32 (log 48). -/
def State.elementAddr (s : State) (mode : VecMode) (size : Size) (i : Nat) : Word :=
  match mode with
  | .unit rd _ => s.x rd + BitVec.ofNat 32 (i * size.bytes)
  | .strided rd rt => s.x rd + s.x rt * BitVec.ofNat 32 i
  | .indexed rd vt => s.x rd + s.v vt i

/-! ## Operands of vector instructions -/

/-- The operands `A`, `B` of element `i` in the `.vv` form (R180, R265). -/
def State.operandsVV (s : State) (vd vt : VReg) (i : Nat) : Word × Word :=
  (s.v vd i, s.v vt i)

/-- The operands `A`, `B` of element `i` in the `.vs` form (R180, R265). -/
def State.operandsVS (s : State) (vd : VReg) (rt : Reg) (i : Nat) : Word × Word :=
  (s.v vd i, s.x rt)

/-- The operands `A`, `B` of element `i` in the `.sv` form (R180, R265). -/
def State.operandsSV (s : State) (rt : Reg) (vd : VReg) (i : Nat) : Word × Word :=
  (s.x rt, s.v vd i)

/-- The element index of `vext.v`, `vins.s`, `vext.s`: the low 8 bits (R132, log 42). -/
def State.elementIndex (s : State) (rd : Reg) : Nat :=
  ((s.x rd).extractLsb' 0 8).toNat

end Sys2Proof.Machine
end

