-- ==== Sys2Proof/Machine/FixedPoint.lean ====
section
/-! DEFINITION. The functions of the fixed-point instructions: the architected pipeline (45_fixed_point.md
R260 to R274) and the T0 pipelines of Appendix A (46_t0_fixed_point_pipe.md R290 to R315), whose open points are
the readings `p` (log 18). Intermediate values are exact integers, narrowed where a rule says so. -/

namespace Sys2Proof.Machine

/-! ## The configuration register (R261) -/

/-- The architected fields of a configuration word. -/
structure FxFields where
  /-- Bits 4:0; Appendix A calls it `shlam`. -/
  sham : Nat
  /-- Bits 8:7. -/
  clipam : BitVec 2
  /-- Bit 9. -/
  shlnr : Bool
  /-- Bit 10. -/
  shrnr : Bool
  /-- Bit 11. -/
  shrst : Bool
deriving DecidableEq, Repr

/-- R261: the fields of `cfg = x[rd]`. -/
def fxFields (cfg : Word) : FxFields where
  sham := (cfg.extractLsb' 0 5).toNat
  clipam := cfg.extractLsb' 7 2
  shlnr := cfg.getLsbD 9
  shrnr := cfg.getLsbD 10
  shrst := cfg.getLsbD 11

/-- The unused bits of a configuration word, 31:12 and 6:5 (R262). -/
def fxUnusedBits : Word := 0xFFFFF060

/-- What an element of a fixed-point result is: whether it is written, its value, and whether the
saturation bit is set. -/
structure FxOut where
  write : Bool
  value : Word
  flag : Bool
deriving DecidableEq, Repr

/-- Which fixed-point operation (R98). -/
inductive FxOp where
  | add
  | sub
  | mul
deriving DecidableEq, Repr

/-! ## The architected stages -/

/-- The rounding 1 at bit `sham - 1`, unless `shlnr` or `sham = 0` (R266, R271). -/
def fxHalf (f : FxFields) : Int :=
  if !f.shlnr && decide (1 ≤ f.sham) then 2 ^ (f.sham - 1) else 0

/-- The right shift with the sticky-bit adjustment (R268). -/
def fxShiftRight (f : FxFields) (addout : Int) : Int :=
  let shr := addout / 2 ^ f.sham
  let sticky := addout % 2 ^ f.sham != 0
  if !f.shrnr && !f.shrst && f.sham != 0 && !sticky then shr - shr % 2
  else if !f.shrnr && f.shrst && sticky then shr - shr % 2 + 1
  else shr

/-- The range that `clipam` keeps (R263); `11` is T0's 16 bits (Table 11). -/
def clipRange (clipam : BitVec 2) : Int × Int :=
  match clipam with
  | 0b00#2 => (-(2 ^ 31), 2 ^ 31 - 1)
  | 0b01#2 => (-(2 ^ 7), 2 ^ 7 - 1)
  | _ => (-(2 ^ 15), 2 ^ 15 - 1)

/-- The clipper: the clipped value and whether clipping changed it (R269). -/
def clip (clipam : BitVec 2) (z : Int) : Int × Bool :=
  if z < (clipRange clipam).1 then ((clipRange clipam).1, true)
  else if (clipRange clipam).2 < z then ((clipRange clipam).2, true)
  else (z, false)

/-- The 32-bit result and the saturation flag of a value before the right shift (R268, R269). -/
def fxFinish (f : FxFields) (addout : Int) : FxOut where
  write := true
  value := trunc32 (clip f.clipam (fxShiftRight f addout)).1
  flag := (clip f.clipam (fxShiftRight f addout)).2

/-- The exact value before the right shift: R266 and R267 for `fxadd`, `fxsub`; R271 for `fxmul`. -/
def fxAddOut (op : FxOp) (f : FxFields) (a b : Word) : Int :=
  match op with
  | .add => (trunc32 (a.toInt * 2 ^ f.sham + fxHalf f)).toInt + b.toInt
  | .sub => (trunc32 (a.toInt * 2 ^ f.sham + fxHalf f)).toInt - b.toInt
  | .mul => (a.setWidth 16).toInt * (b.setWidth 16).toInt + fxHalf f

/-- `FxAddSub` (R270) and `FxMul` (R272). -/
def fxArch (op : FxOp) (cfg a b : Word) : FxOut :=
  fxFinish (fxFields cfg) (fxAddOut op (fxFields cfg) a b)

/-! ## The T0 pipeline (Appendix A) -/

/-- Table 10, the logic unit (R295). -/
def t0Logic (lufunc : BitVec 4) (a b : Word) : Word :=
  match lufunc with
  | 0b0000#4 => b
  | 0b0001#4 => b ||| ~~~a
  | 0b0010#4 => a &&& b
  | 0b0011#4 => ~~~(a ^^^ b)
  | 0b0100#4 => a ||| b
  | 0b0101#4 => BitVec.allOnes 32
  | 0b0110#4 => a
  | 0b0111#4 => a ||| ~~~b
  | 0b1000#4 => b &&& ~~~a
  | 0b1001#4 => ~~~a
  | 0b1010#4 => 0
  | 0b1011#4 => ~~~(a ||| b)
  | 0b1100#4 => a ^^^ b
  | 0b1101#4 => ~~~(a &&& b)
  | 0b1110#4 => a &&& ~~~b
  | _ => ~~~b

/-- The rounding 1 of a shift amount (R296, R308). -/
def t0Half (f : FxFields) (amt : Nat) : Int :=
  if !f.shlnr && decide (1 ≤ amt) then 2 ^ (amt - 1) else 0

/-- The constant right shift amount: `shram`, of its own width, or `shlam` (R299, R309). -/
def t0ConstantAmount (p : T0Readings) (f : FxFields) (e : T0Extra) : Nat :=
  if e.sepsham then e.shram.toNat % 2 ^ p.shramBits.val else f.sham

/-- The right shift amount of the sixth stage (R299). -/
def t0RightAmount (p : T0Readings) (f : FxFields) (e : T0Extra) (lo5 : Nat) : Nat :=
  if e.shrv then lo5 else t0ConstantAmount p f e

/-- The logical right shift of the adder output: of its 33 bits or of its low 32 (R299, R315). -/
def t0LogicalShift (p : T0Readings) (addout : BitVec 33) (amt : Nat) : BitVec 33 :=
  if p.logical33 then addout >>> amt else (addout.setWidth 32 >>> amt).setWidth 33

/-- The sixth stage: right shift of the 33-bit adder output with the sticky-bit adjustment (R299, R309).
`varying` is `shrv`, false in the multiply pipeline. -/
def t0ShiftRight (p : T0Readings) (f : FxFields) (logical varying : Bool) (amt : Nat)
    (addout : BitVec 33) : BitVec 33 :=
  let shifted := if logical then t0LogicalShift p addout amt else addout.sshiftRight amt
  let sticky := addout.toNat % 2 ^ amt != 0
  if f.shrnr then shifted
  else if f.shrst then (if sticky then shifted ||| 1#33 else shifted)
  else if !varying && amt == 0 then shifted
  else if sticky then shifted
  else shifted &&& ~~~1#33

/-- The clipper, with Table 11 for `noclip = 0` and Table 12 for `noclip = 1` (R301, R310): `CLIPOUT` and
`FLAG`. -/
def t0Clipper (noclip : Bool) (clipam : BitVec 2) (clipin addout : BitVec 33) : Word × Bool :=
  if noclip then
    match clipam with
    | 0b00#2 => (clipin.setWidth 32, false)
    | 0b01#2 => (clipin.setWidth 32, clipin.getLsbD 32 != clipin.getLsbD 31)
    | 0b10#2 => (if clipin.getLsbD 32 then 1 else 0, clipin.getLsbD 32)
    | _ => (if addout == 0 then 1 else 0, addout == 0)
  else (trunc32 (clip clipam clipin.toInt).1, (clip clipam clipin.toInt).2)

/-- Table 13, the conditional write (R302). -/
def t0WriteEnable (wcond : BitVec 3) (addout : Int) : Bool :=
  match wcond with
  | 0b000#3 => true
  | 0b001#3 => addout != 0
  | 0b010#3 => decide (0 ≤ addout)
  | 0b011#3 => decide (addout ≤ 0)
  | 0b100#3 => false
  | 0b101#3 => addout == 0
  | 0b110#3 => decide (addout < 0)
  | _ => decide (0 < addout)

/-- The left-shifted input of the adder (R296). Where the round bit goes when `shlv = 1` is open (R315, log 18);
wherever it goes it is ORed in, without a carry (DEDUCED from the `|` of R296, log 58). -/
def t0ShlOut (p : T0Readings) (f : FxFields) (e : T0Extra) (a luout : Word) : Word :=
  let varying := (luout.extractLsb' 0 5).toNat
  let amt := if e.shlv then varying else f.sham
  let roundAmt := if e.shlv then p.roundAmount varying f.sham else f.sham
  trunc32 ((if e.shlza then 0 else a.toInt) * 2 ^ amt) ||| trunc32 (t0Half f roundAmt)

/-- The 33-bit adder output of an exact sum; a sum of more than 33 bits gives an open value (R298, R315). -/
def t0Adder (p : T0Readings) (exact : Int) : BitVec 33 :=
  if -(2 ^ 32) ≤ exact ∧ exact < 2 ^ 32 then BitVec.ofInt 33 exact else p.adderWrap exact

/-- The adder of the fifth stage (R297, R298). -/
def t0AddOut (p : T0Readings) (sub : Bool) (e : T0Extra) (shlout luout : Word) : BitVec 33 :=
  let adda : Int := if e.au then shlout.toNat else shlout.toInt
  let addb : Int := if e.bu then luout.toNat else luout.toInt
  t0Adder p (if e.shlv || e.shrv then adda else if sub then adda - addb else adda + addb)

/-- `T0FxAddSub` (R303). -/
def t0FxAddSub (p : T0Readings) (sub : Bool) (f : FxFields) (e : T0Extra) (a b : Word) : FxOut :=
  let luout := t0Logic e.lufunc a b
  let addb : BitVec 33 := if e.bu then luout.setWidth 33 else luout.signExtend 33
  let addout := t0AddOut p sub e (t0ShlOut p f e a luout) luout
  let shrout := t0ShiftRight p f e.shrl e.shrv
    (t0RightAmount p f e (luout.extractLsb' 0 5).toNat) addout
  let clipped := t0Clipper e.noclip f.clipam (if e.lures then addb else shrout) addout
  { write := t0WriteEnable e.wcond addout.toInt, value := clipped.1, flag := clipped.2 }

/-- The fields that must be zero in the multiply pipeline (R312). -/
def t0MulIllegal (e : T0Extra) : Bool :=
  e.shlza || e.shlv || e.shrv || e.lures

/-- The operands of the multiply: `A` and `B`; what a `lufunc` that is not zero does is open (R315). -/
def t0MulOperands (p : T0Readings) (e : T0Extra) (a b : Word) : Word × Word :=
  if e.lufunc = 0 then (a, b) else p.mulOperands e.lufunc a b

/-- `T0FxMul` (R313). -/
def t0FxMul (p : T0Readings) (f : FxFields) (e : T0Extra) (a b : Word) : FxOut :=
  let ab := t0MulOperands p e a b
  let mula : Int := if e.au then (ab.1.setWidth 16).toNat else (ab.1.setWidth 16).toInt
  let mulb : Int := if e.bu then (ab.2.setWidth 16).toNat else (ab.2.setWidth 16).toInt
  let addout := t0Adder p (mula * mulb + fxHalf f)
  let shrout := t0ShiftRight p f e.shrl false (t0ConstantAmount p f e) addout
  let clipped := t0Clipper e.noclip f.clipam shrout addout
  { write := t0WriteEnable e.wcond addout.toInt, value := clipped.1, flag := clipped.2 }

/-! ## Which pipeline a configuration word selects -/

/-- How a fixed-point instruction treats its configuration word. -/
inductive FxMode where
  /-- The architected behaviour (R270, R272). -/
  | architected
  /-- The T0-only bits are honoured (R290). -/
  | t0
  /-- The spec defines no result: it is a free value (logs 16, 17). -/
  | unspecified
deriving DecidableEq, Repr

/-- Which behaviour a configuration word selects, where it is not refused: unused bits must be zero in the architected
one, and `clipam = 11` is unpredictable unless the implementation clips to 16 bits (R262, R263, R290). -/
def fxMode (c : Config) (cfg : Word) : FxMode :=
  if cfg &&& fxUnusedBits = 0 then
    (if (fxFields cfg).clipam = 0b11#2 ∧ c.clipam3 ≠ .clip16 then .unspecified
     else .architected)
  else if c.t0CfgBits = .honoured then .t0
  else .unspecified

/-- The refusal of a configuration word (R262, R263, R312, R485): `clipam = 11` and unused bits as the run parameters
say, and a T0 multiply with a field set that must be zero. -/
def fxRefusal (c : Config) (op : FxOp) (cfg : Word) : Option Refusal :=
  if cfg &&& fxUnusedBits = 0 then
    if (fxFields cfg).clipam = 0b11#2 ∧ c.clipam3 = .refuse then some .clipAmount3 else none
  else
    match c.t0CfgBits with
    | .refuse => some .unusedConfigurationBits
    | .unpredictable => none
    | .honoured =>
      if op = .mul ∧ t0MulIllegal (Config.t0Extra cfg) = true then some .t0FieldMustBeZero else none

/-- The result of one element by the T0 pipeline. -/
def t0Arith (p : T0Readings) (op : FxOp) (f : FxFields) (e : T0Extra) (a b : Word) : FxOut :=
  match op with
  | .add => t0FxAddSub p false f e a b
  | .sub => t0FxAddSub p true f e a b
  | .mul => t0FxMul p f e a b

/-- One element of a T0 operation. Whether `FLAG` reaches `vsat` when the write is disabled is a free choice
(R302, R315, log 18). -/
def t0Element (p : T0Readings) (op : FxOp) (f : FxFields) (e : T0Extra) (a b : Word)
    (flagPasses : Bool) : FxOut :=
  let r := t0Arith p op f e a b
  { write := r.write, value := r.value, flag := r.flag && (r.write || flagPasses) }

/-- One element of a fixed-point instruction; element `k` draws the free values `2 k` and `2 k + 1`. -/
def State.fxElement (s : State) (op : FxOp) (cfg : Word) (k : Nat) (operands : Word × Word) : FxOut :=
  match fxMode s.cfg cfg with
  | .architected => fxArch op cfg operands.1 operands.2
  | .t0 => t0Element Config.t0Readings op (fxFields cfg) (Config.t0Extra cfg) operands.1 operands.2
      (s.freeBit (2 * k + 1))
  | .unspecified =>
    { write := true, value := s.free (2 * k), flag := s.freeBit (2 * k + 1) }

/-- The operands of `fxmul.sv` (R265); T0 may take them the other way round (R306, R315). -/
def State.operandsFxmulSV (s : State) (rt : Reg) (vd : VReg) (rd : Reg) (k : Nat) : Word × Word :=
  if fxMode s.cfg (s.x rd) = .t0 ∧ Config.t0Readings.mulSvSwapped = true then s.operandsVS vd rt k
  else s.operandsSV rt vd k

end Sys2Proof.Machine
end

