-- ==== Sys2Proof/Machine/Flags.lean ====
section
/-! DEFINITION. Every flag computation: signed overflow (43 R182, 47 R335), the sticky registers `vovf` and
`vsat` (10_state.md R37, R38, 43 R183), and `vcond` (10_state.md R36, 44 R221). The scalar CPU has no
condition code (R39). -/

namespace Sys2Proof.Machine

/-- Signed overflow of an addition: the exact sum is no signed 32-bit value (R182). -/
def addOverflows (a b : Word) : Bool := !fitsSigned32 (a.toInt + b.toInt)

/-- Signed overflow of a subtraction (R182). -/
def subOverflows (a b : Word) : Bool := !fitsSigned32 (a.toInt - b.toInt)

/-- The word whose bit `i` is `p i` for `i < n` and 0 elsewhere. -/
def flagWord : Nat → (Nat → Bool) → Word
  | 0, _ => 0
  | n + 1, p => flagWord n p ||| (if p n then (1 : Word) <<< n else 0)

/-- `vovf[i] <- 1` where `p i`, for `i < n`; sticky (R183). -/
def State.orVovf (s : State) (n : Nat) (p : Nat → Bool) : State :=
  { s with vovf := s.vovf ||| flagWord n p }

/-- `vsat[i] <- 1` where `p i`, for `i < n`; sticky (R269). -/
def State.orVsat (s : State) (n : Nat) (p : Nat → Bool) : State :=
  { s with vsat := s.vsat ||| flagWord n p }

/-- `vcond[i] <- p i` for `i < n`; the bits from `n` on are unchanged (R221). -/
def State.putVcond (s : State) (n : Nat) (p : Nat → Bool) : State :=
  { s with vcond := (s.vcond &&& ~~~flagWord n (fun _ => true)) ||| flagWord n p }

end Sys2Proof.Machine
end

