-- ==== Sys2Proof/Machine/VecOps.lean ====
section
/-! DEFINITION. The common procedures of the vector families: `VecInt` with its variants (43 R181, 44 R221,
R223), `VecFx` (45 R275) and `VecMem` (42 R142). Each meaning of the vector families is one of these applied
to the instruction's own functions. -/

namespace Sys2Proof.Machine

/-! ## Integer (R181) -/

/-- Procedure `VecInt`: `v[vw][i] <- f A B` for `i < n`. -/
def vecInt (i : Instr) (regs : List VReg) (vw : VReg) (operands : Nat → Word × Word)
    (f : Word → Word → Word) (s : State) : Result :=
  s.vectorPrologue i regs fun n =>
    .next (s.setV vw n fun k => f (operands k).1 (operands k).2).advance

/-- `VecInt` with the sticky overflow flags of `add` and `sub` (R182, R183). -/
def vecIntOverflow (i : Instr) (regs : List VReg) (vw : VReg) (operands : Nat → Word × Word)
    (f : Word → Word → Word) (overflows : Word → Word → Bool) (s : State) : Result :=
  s.vectorPrologue i regs fun n =>
    .next (((s.setV vw n fun k => f (operands k).1 (operands k).2).orVovf n
      fun k => overflows (operands k).1 (operands k).2).advance)

/-- A flag instruction: `vcond[i] <- test A B` for `i < n` (R221). -/
def vecFlag (i : Instr) (regs : List VReg) (operands : Nat → Word × Word)
    (test : Word → Word → Bool) (s : State) : Result :=
  s.vectorPrologue i regs fun n =>
    .next (s.putVcond n fun k => test (operands k).1 (operands k).2).advance

/-- A conditional move: `v[vw][i] <- B` where the condition holds of `A`, for `i < n` (R223). -/
def vecMove (i : Instr) (regs : List VReg) (vw : VReg) (operands : Nat → Word × Word)
    (cond : Word → Bool) (s : State) : Result :=
  s.vectorPrologue i regs fun n =>
    .next (s.setVWhere vw (fun k => decide (k < n) && cond (operands k).1)
      fun k => (operands k).2).advance

/-! ## Fixed point (R275) -/

/-- The free values that a fixed-point instruction draws: none in the architected behaviour. -/
def fxDraws (mode : FxMode) (n : Nat) : Nat :=
  if mode = .architected then 0 else 2 * n

/-- Procedure `VecFx`: every result is computed from the state before. With `n = 0` the configuration word is not
examined, so nothing is refused (R275, R485). -/
def vecFixed (i : Instr) (regs : List VReg) (vw : VReg) (rd : Reg) (operands : Nat → Word × Word)
    (op : FxOp) (s : State) : Result :=
  s.vectorPrologue i regs fun n =>
    let out := fun k => s.fxElement op (s.x rd) k (operands k)
    match if n = 0 then none else fxRefusal s.cfg op (s.x rd) with
    | some r => .refused r
    | none => .next ((((s.setVWhere vw (fun k => decide (k < n) && (out k).write) fun k => (out k).value).orVsat n
        fun k => (out k).flag).drawn (fxDraws (fxMode s.cfg (s.x rd)) n)).advance)

/-! ## Memory (R142) -/

/-- The vector register that an addressing mode names. -/
def VecMode.regs : VecMode → List VReg
  | .unit _ _ => []
  | .strided _ _ => []
  | .indexed _ vt => [vt]

/-- Step 2 of `VecMem`: an auto-increment with `rd = rt` (R145). -/
def VecMode.sameRegister : VecMode → Bool
  | .unit rd rt => rd == rt
  | .strided _ _ => false
  | .indexed _ _ => false

/-- The byte addresses of elements 0 to `n - 1`. -/
def State.elementBytes (s : State) (mode : VecMode) (size : Size) (n : Nat) : List Nat :=
  (List.range n).flatMap fun i => byteAddrs (s.elementAddr mode size i) size.bytes

/-- Whether an element of a strided or indexed access is misaligned (R65, R144). -/
def State.misalignedElement (s : State) (mode : VecMode) (size : Size) (n : Nat) : Bool :=
  (List.range n).any fun i => !aligned size (s.elementAddr mode size i)

/-- Step 5 of `VecMem`: the post-increment of the unit-stride forms (R143). -/
def State.postIncrement (s : State) (mode : VecMode) : State :=
  match mode with
  | .unit rd rt => s.setX rd (s.x rd + s.x rt)
  | .strided _ _ => s
  | .indexed _ _ => s

/-- Steps 4 to 6 of `VecMem`: the access, the transfer, the increment, the advance. -/
def State.vecTransfer (s : State) (kind : AccessKind) (mode : VecMode) (size : Size) (n : Nat)
    (transfer : State → State) : Result :=
  s.access ⟨.vector, kind, s.elementBytes mode size n⟩ fun t =>
    .next ((transfer t).postIncrement mode).advance

/-- Procedure `VecMem` (R142). `transfer n` is step 4; `unspecified n` makes the state that a Vector address
exception of a strided or indexed form leaves (R82). With `n = 0` and a misaligned unit-stride base the spec
refuses (R144, ruling D12; log 21). -/
def vecMem (i : Instr) (vd : VReg) (kind : AccessKind) (mode : VecMode) (size : Size)
    (transfer unspecified : Nat → State → State) (s : State) : Result :=
  s.vectorPrologue i (vd :: mode.regs) fun n =>
    if mode.sameRegister then .refused .autoIncrementSameRegister
    else
      match mode with
      | .unit rd _ =>
        if aligned size (s.x rd) then s.vecTransfer kind mode size n (transfer n)
        else if n = 0 then .refused .emptyAccessMisaligned
        else s.raise .vectorAddress (.word (encode i))
      | .strided _ _ | .indexed _ _ =>
        if s.misalignedElement mode size n then
          (unspecified n s).raise .vectorAddress (.word (encode i))
        else s.vecTransfer kind mode size n (transfer n)

/-- The loaded elements (R69, R146): all addresses are those of the state before. -/
def State.loadElements (s : State) (vd : VReg) (mode : VecMode) (size : Size) (ext : Extension)
    (n : Nat) : State :=
  s.setV vd n fun i => extendLoaded ext size (s.memRead (s.elementAddr mode size i) size.bytes)

/-- The destination of a load after a Vector address exception: elements 0 to `n - 1` are free (R82,
log 23). -/
def State.freeElements (s : State) (vd : VReg) (n : Nat) : State :=
  (s.setV vd n fun i => s.free i).drawn n

/-- A vector load. -/
def vecLoad (i : Instr) (vd : VReg) (mode : VecMode) (size : Size) (ext : Extension) (s : State) :
    Result :=
  vecMem i vd .read mode size (fun n t => t.loadElements vd mode size ext n)
    (fun n t => t.freeElements vd n) s

/-- The bytes that the elements of a store write, element after element. -/
def State.elementCells (s : State) (vd : VReg) (mode : VecMode) (size : Size) (n : Nat) :
    List Host.Cell :=
  (List.range n).flatMap fun i =>
    storeCells s.cfg.endian (s.elementAddr mode size i) size.bytes (s.v vd i)

/-- The values that the cells of a list give to an address. -/
def candidates (cells : List Host.Cell) (a : Nat) : List Byte :=
  (cells.filter fun c => c.1 == a).map fun c => c.2

/-- The value that ends in a byte: the one written, or any one of those that overlapping elements write, by
a free choice (R70, log 22). -/
def chooseByte (choice : Word) (values : List Byte) : Byte :=
  match values with
  | [b] => b
  | bs => bs.getD (choice.toNat % bs.length) 0

/-- The cells of a vector store with every overlap resolved. -/
def State.resolveCells (s : State) (cells : List Host.Cell) : List Host.Cell :=
  cells.mapIdx fun k c => (c.1, chooseByte (s.free k) (candidates cells c.1))

/-- Whether one of the addresses lies in the linked word (R24, N22). -/
def State.touchesLink (s : State) (addrs : List Nat) : Bool :=
  addrs.any fun a => decide (s.llAddr.toNat ≤ a) && decide (a < s.llAddr.toNat + 4)

/-- Whether a vector store to the linked word clears `LLbit` is in no source: a free choice (N22,
log 24). -/
def State.vectorStoreLink (s : State) (addrs : List Nat) (choice : Bool) : State :=
  { s with llBit := s.llBit && (!s.touchesLink addrs || choice) }

/-- The stored elements (R70). -/
def State.storeElements (s : State) (vd : VReg) (mode : VecMode) (size : Size) (n : Nat) : State :=
  let cells := s.elementCells vd mode size n
  ((s.writeCells (s.resolveCells cells)).vectorStoreLink (s.elementBytes mode size n)
    (s.freeBit cells.length)).drawn (cells.length + 1)

/-- The bytes of aligned elements that a faulting store may have reached: those that a store may write
(R82, R77, R79). -/
def State.reachableCells (s : State) (vd : VReg) (mode : VecMode) (size : Size) (n : Nat) :
    List Host.Cell :=
  ((List.range n).filter fun i => aligned size (s.elementAddr mode size i)).flatMap fun i =>
    (storeCells s.cfg.endian (s.elementAddr mode size i) size.bytes (s.v vd i)).filter fun c =>
      s.mapped .write c.1 && !s.inText c.1

/-- Memory after a Vector address exception of a store: the bytes at every aligned element are free (R82,
log 23). -/
def State.freeBytes (s : State) (vd : VReg) (mode : VecMode) (size : Size) (n : Nat) : State :=
  let cells := s.reachableCells vd mode size n
  (s.writeCells (cells.mapIdx fun k c => (c.1, (s.free k).setWidth 8))).drawn cells.length

/-- A vector store. -/
def vecStore (i : Instr) (vd : VReg) (mode : VecMode) (size : Size) (s : State) : Result :=
  vecMem i vd .write mode size (fun n t => t.storeElements vd mode size n)
    (fun n t => t.freeBytes vd mode size n) s

end Sys2Proof.Machine
end

