-- ==== Sys2Proof/Machine/ControlRegs.lean ====
section
/-! DEFINITION. The VU control register instructions (spec 40). -/

namespace Sys2Proof.Machine

/-- A `cfvu` of `vcount`: the count is drawn, since no time is modelled (R124, log 14). -/
def State.drawVcount (s : State) : State :=
  { s with vcount := s.free 0, draws := s.draws + 1 }

/-- R121 `cfvu rt, cs`: `x[rt]` receives the control register. -/
def execCfvu (rt : Reg) (cs : CReg) (s : State) : Result :=
  if !s.cu2 then s.raiseCpU 2
  else
    match cs with
    | 0#5 => .next (s.setX rt s.vrev).advance
    | 1#5 => .next (s.drawVcount.setX rt s.drawVcount.vcount).advance
    | 2#5 => .next (s.setX rt (s.vlr.setWidth 32)).advance
    | 4#5 => .next (s.setX rt s.vcond).advance
    | 8#5 => .next (s.setX rt s.vovf).advance
    | 12#5 => .next (s.setX rt s.vsat).advance
    | _ => .refused .invalidControlRegister

/-- `vlr <- x[rt][7:0]` (R126, log 41). -/
def State.setVlr (s : State) (w : Word) : State := { s with vlr := w.setWidth 8 }

/-- `vcond <- x[rt]`, all 32 bits (R127). -/
def State.setVcond (s : State) (w : Word) : State := { s with vcond := w }

/-- `vovf <- x[rt]`, all 32 bits (R127). -/
def State.setVovf (s : State) (w : Word) : State := { s with vovf := w }

/-- `vsat <- x[rt]`, all 32 bits (R127). -/
def State.setVsat (s : State) (w : Word) : State := { s with vsat := w }

/-- R122 `ctvu rt, cs`: the control register receives `x[rt]`. -/
def execCtvu (rt : Reg) (cs : CReg) (s : State) : Result :=
  if !s.cu2 then s.raiseCpU 2
  else
    match cs with
    | 0#5 => .refused .readOnlyControlRegister
    | 1#5 => .refused .readOnlyControlRegister
    | 2#5 => .next (s.setVlr (s.x rt)).advance
    | 4#5 => .next (s.setVcond (s.x rt)).advance
    | 8#5 => .next (s.setVovf (s.x rt)).advance
    | 12#5 => .next (s.setVsat (s.x rt)).advance
    | _ => .refused .invalidControlRegister

end Sys2Proof.Machine
end

