-- ==== Sys2Proof/Machine/InsertExtract.lean ====
section
/-! DEFINITION. The vector insert and extract instructions (spec 41). -/

namespace Sys2Proof.Machine

/-- R133 `vext.v vd, vt, rd`: `v[vd][i] <- v[vt][idx + i]` for `i < n`. The range test takes the low 8 bits of
the sum. The spec refuses two cases: `n = 0` with an index above `MVL` (ruling D12, log 20), and a sum that
wraps past 8 bits (R134, ruling D11, log 19). -/
def execVextV (vd vt : VReg) (rd : Reg) (s : State) : Result :=
  s.vectorPrologue (.vextV vd vt rd) [vd, vt] fun n =>
    let idx := s.elementIndex rd
    if n = 0 then
      if mvl < idx then .refused .extractRangeUnstated
      else .next s.advance
    else if mvl < (n + idx) % 256 then s.raise .vectorOperation (.word (encode (.vextV vd vt rd)))
    else if mvl < n + idx then .refused .extractIndexWrap
    else .next (s.setV vd n fun k => s.v vt (idx + k)).advance

/-- Steps 1 and 2 of the prologue and the index test, for `vins.s` and `vext.s`, which do not read `vlr`
(R131, R135, R136); then the instruction's own rule with the index. -/
def State.elementPrologue (s : State) (i : Instr) (vd : VReg) (rd : Reg) (k : Nat → Result) : Result :=
  if !s.cu2 then s.raiseCpU 2
  else if s.cfg.nvreg ≤ vd.toNat then s.raise .reservedInstruction (.word (encode i))
  else if mvl ≤ s.elementIndex rd then s.raise .vectorOperation (.word (encode i))
  else k (s.elementIndex rd)

/-- R135 `vins.s rt, vd, rd`: `v[vd][idx] <- x[rt]`. -/
def execVinsS (rt : Reg) (vd : VReg) (rd : Reg) (s : State) : Result :=
  s.elementPrologue (.vinsS rt vd rd) vd rd fun idx =>
    .next (s.setVWhere vd (fun k => k == idx) fun _ => s.x rt).advance

/-- R136 `vext.s rt, vd, rd`: `x[rt] <- v[vd][idx]`. -/
def execVextS (rt : Reg) (vd : VReg) (rd : Reg) (s : State) : Result :=
  s.elementPrologue (.vextS rt vd rd) vd rd fun idx =>
    .next (s.setX rt (s.v vd idx)).advance

end Sys2Proof.Machine
end

