-- ==== Sys2Proof/Machine/ScalarBranch.lean ====
section
/-! DEFINITION. The scalar branches and jumps (spec 48 section 3; PRESUMED from general knowledge as that file
says, log 46). A branch or jump in a delay slot is refused (R410). -/

namespace Sys2Proof.Machine

/-- The step of a conditional branch: taken, or not taken with its delay slot executed (ordinary) or nullified
(likely) (R408 to R410). -/
def State.branchStep (s : State) (likely taken : Bool) (target : Word) : State :=
  if taken then s.branchTo target
  else if likely then s.nullify
  else s.fallThrough

/-- A conditional branch. -/
def condBranch (likely taken : Bool) (imm : BitVec 16) (s : State) : Result :=
  if s.inDelaySlot then .refused .branchInDelaySlot
  else .next (s.branchStep likely taken (s.branchTarget imm))

/-- A conditional branch that links: `x[31]` is written whether or not it is taken, after the condition is
evaluated; `rs = 31` is not allowed (R408, R417). -/
def condBranchLink (likely taken : Bool) (rs : Reg) (imm : BitVec 16) (s : State) : Result :=
  if s.inDelaySlot then .refused .branchInDelaySlot
  else if rs = 31 then .refused .linkRegisterIsSource
  else .next ((s.setX 31 s.linkAddr).branchStep likely taken (s.branchTarget imm))

/-- An unconditional jump from a state with its link already written. -/
def jumpTo (linked : State) (target : Word) (s : State) : Result :=
  if s.inDelaySlot then .refused .branchInDelaySlot
  else .next (linked.branchTo target)

/-- R411 `beq rs, rt, imm`: branch if `x[rs] = x[rt]`. -/
def execBeq (rs rt : Reg) (imm : BitVec 16) (s : State) : Result :=
  condBranch false (s.x rs == s.x rt) imm s

/-- R412 `bne rs, rt, imm`: branch if `x[rs] != x[rt]`. -/
def execBne (rs rt : Reg) (imm : BitVec 16) (s : State) : Result :=
  condBranch false (s.x rs != s.x rt) imm s

/-- R413 `blez rs, imm`: branch if `sint(x[rs]) <= 0`. -/
def execBlez (rs : Reg) (imm : BitVec 16) (s : State) : Result :=
  condBranch false (decide ((s.x rs).toInt ≤ 0)) imm s

/-- R414 `bgtz rs, imm`: branch if `sint(x[rs]) > 0`. -/
def execBgtz (rs : Reg) (imm : BitVec 16) (s : State) : Result :=
  condBranch false (decide (0 < (s.x rs).toInt)) imm s

/-- R415 `bltz rs, imm`: branch if `sint(x[rs]) < 0`. -/
def execBltz (rs : Reg) (imm : BitVec 16) (s : State) : Result :=
  condBranch false (decide ((s.x rs).toInt < 0)) imm s

/-- R416 `bgez rs, imm`: branch if `sint(x[rs]) >= 0`. -/
def execBgez (rs : Reg) (imm : BitVec 16) (s : State) : Result :=
  condBranch false (decide (0 ≤ (s.x rs).toInt)) imm s

/-- R417 `bltzal rs, imm`: branch if `sint(x[rs]) < 0`, and link. -/
def execBltzal (rs : Reg) (imm : BitVec 16) (s : State) : Result :=
  condBranchLink false (decide ((s.x rs).toInt < 0)) rs imm s

/-- R418 `bgezal rs, imm`: branch if `sint(x[rs]) >= 0`, and link. -/
def execBgezal (rs : Reg) (imm : BitVec 16) (s : State) : Result :=
  condBranchLink false (decide (0 ≤ (s.x rs).toInt)) rs imm s

/-- R419 `beql rs, rt, imm`: branch likely if `x[rs] = x[rt]`. -/
def execBeql (rs rt : Reg) (imm : BitVec 16) (s : State) : Result :=
  condBranch true (s.x rs == s.x rt) imm s

/-- R420 `bnel rs, rt, imm`: branch likely if `x[rs] != x[rt]`. -/
def execBnel (rs rt : Reg) (imm : BitVec 16) (s : State) : Result :=
  condBranch true (s.x rs != s.x rt) imm s

/-- R421 `blezl rs, imm`: branch likely if `sint(x[rs]) <= 0`. -/
def execBlezl (rs : Reg) (imm : BitVec 16) (s : State) : Result :=
  condBranch true (decide ((s.x rs).toInt ≤ 0)) imm s

/-- R422 `bgtzl rs, imm`: branch likely if `sint(x[rs]) > 0`. -/
def execBgtzl (rs : Reg) (imm : BitVec 16) (s : State) : Result :=
  condBranch true (decide (0 < (s.x rs).toInt)) imm s

/-- R423 `bltzl rs, imm`: branch likely if `sint(x[rs]) < 0`. -/
def execBltzl (rs : Reg) (imm : BitVec 16) (s : State) : Result :=
  condBranch true (decide ((s.x rs).toInt < 0)) imm s

/-- R424 `bgezl rs, imm`: branch likely if `sint(x[rs]) >= 0`. -/
def execBgezl (rs : Reg) (imm : BitVec 16) (s : State) : Result :=
  condBranch true (decide (0 ≤ (s.x rs).toInt)) imm s

/-- R425 `bltzall rs, imm`: branch likely if `sint(x[rs]) < 0`, and link. -/
def execBltzall (rs : Reg) (imm : BitVec 16) (s : State) : Result :=
  condBranchLink true (decide ((s.x rs).toInt < 0)) rs imm s

/-- R426 `bgezall rs, imm`: branch likely if `sint(x[rs]) >= 0`, and link. -/
def execBgezall (rs : Reg) (imm : BitVec 16) (s : State) : Result :=
  condBranchLink true (decide (0 ≤ (s.x rs).toInt)) rs imm s

/-- R427 `j target`: jump. -/
def execJ (target : BitVec 26) (s : State) : Result :=
  jumpTo s (s.jumpTarget target) s

/-- R428 `jal target`: jump and link to `$31`. -/
def execJal (target : BitVec 26) (s : State) : Result :=
  jumpTo (s.setX 31 s.linkAddr) (s.jumpTarget target) s

/-- R429 `jr rs`: jump to `x[rs]`; a misaligned target faults at its fetch. -/
def execJr (rs : Reg) (s : State) : Result :=
  jumpTo s (s.x rs) s

/-- R430 `jalr rd, rs`: jump to `x[rs]` and link to `rd`; `rd = rs` is not allowed. -/
def execJalr (rd rs : Reg) (s : State) : Result :=
  if rd = rs then .refused .linkRegisterIsSource
  else jumpTo (s.setX rd s.linkAddr) (s.x rs) s

end Sys2Proof.Machine
end

