-- ==== Sys2Proof/Machine/ScalarCompute.lean ====
section
/-! DEFINITION. The scalar computational instructions (spec 47; PRESUMED from general knowledge as that file
says, log 46). -/

namespace Sys2Proof.Machine

/-- A result written to a register, and the sequential advance (R333). -/
def writeResult (rd : Reg) (w : Word) (s : State) : Result :=
  .next (s.setX rd w).advance

/-- A result that traps on signed overflow instead of being written (R335). -/
def writeOrOverflow (overflows : Bool) (rd : Reg) (w : Word) (s : State) : Result :=
  if overflows then s.raise .integerOverflow .none else writeResult rd w s

/-- `HI` and `LO` written. -/
def State.setHiLo (s : State) (hi lo : Word) : State := { s with hi := hi, lo := lo }

/-- An instruction that writes `HI` or `LO` is refused within two instructions of `mfhi` or `mflo` (R368,
R503). -/
def hiLoGuard (s : State) (r : Result) : Result :=
  if s.sinceHiLo < 2 then .refused .hiLoHazard else r

/-- The `mfhi` or `mflo` that starts the count of R503. -/
def State.markHiLoRead (s : State) : State := { s with sinceHiLo := 0 }

/-- The high and low words of a 64-bit product (R360, R361). -/
def State.setProduct (s : State) (p : Int) : State :=
  s.setHiLo (trunc32 (p / 2 ^ 32)) (trunc32 p)

/-- A division: quotient to `LO`, remainder to `HI`; by zero, both are free values (R362, R363, log 15). -/
def State.setQuotient (s : State) (byZero : Bool) (q r : Int) : State :=
  if byZero then (s.setHiLo (s.free 0) (s.free 1)).drawn 2
  else s.setHiLo (trunc32 r) (trunc32 q)

/-- R336 `add rd, rs, rt`: `x[rd] <- x[rs] + x[rt]`, or Integer overflow. -/
def execAdd (rd rs rt : Reg) (s : State) : Result :=
  writeOrOverflow (addOverflows (s.x rs) (s.x rt)) rd (s.x rs + s.x rt) s

/-- R337 `addu rd, rs, rt`: `x[rd] <- x[rs] + x[rt]`. -/
def execAddu (rd rs rt : Reg) (s : State) : Result :=
  writeResult rd (s.x rs + s.x rt) s

/-- R338 `sub rd, rs, rt`: `x[rd] <- x[rs] - x[rt]`, or Integer overflow. -/
def execSub (rd rs rt : Reg) (s : State) : Result :=
  writeOrOverflow (subOverflows (s.x rs) (s.x rt)) rd (s.x rs - s.x rt) s

/-- R339 `subu rd, rs, rt`: `x[rd] <- x[rs] - x[rt]`. -/
def execSubu (rd rs rt : Reg) (s : State) : Result :=
  writeResult rd (s.x rs - s.x rt) s

/-- R340 `and rd, rs, rt`: `x[rd] <- x[rs] & x[rt]`. -/
def execAnd (rd rs rt : Reg) (s : State) : Result :=
  writeResult rd (s.x rs &&& s.x rt) s

/-- R341 `or rd, rs, rt`: `x[rd] <- x[rs] | x[rt]`. -/
def execOr (rd rs rt : Reg) (s : State) : Result :=
  writeResult rd (s.x rs ||| s.x rt) s

/-- R342 `xor rd, rs, rt`: `x[rd] <- x[rs] ^ x[rt]`. -/
def execXor (rd rs rt : Reg) (s : State) : Result :=
  writeResult rd (s.x rs ^^^ s.x rt) s

/-- R343 `nor rd, rs, rt`: `x[rd] <- ~(x[rs] | x[rt])`. -/
def execNor (rd rs rt : Reg) (s : State) : Result :=
  writeResult rd (~~~(s.x rs ||| s.x rt)) s

/-- R344 `slt rd, rs, rt`: `x[rd] <- (sint(x[rs]) < sint(x[rt])) ? 1 : 0`. -/
def execSlt (rd rs rt : Reg) (s : State) : Result :=
  writeResult rd (boolWord (decide ((s.x rs).toInt < (s.x rt).toInt))) s

/-- R345 `sltu rd, rs, rt`: `x[rd] <- (uint(x[rs]) < uint(x[rt])) ? 1 : 0`. -/
def execSltu (rd rs rt : Reg) (s : State) : Result :=
  writeResult rd (boolWord (decide ((s.x rs).toNat < (s.x rt).toNat))) s

/-- R346 `addi rt, rs, imm`: `x[rt] <- x[rs] + sext_32(imm)`, or Integer overflow. -/
def execAddi (rt rs : Reg) (imm : BitVec 16) (s : State) : Result :=
  writeOrOverflow (addOverflows (s.x rs) (signExt16 imm)) rt (s.x rs + signExt16 imm) s

/-- R347 `addiu rt, rs, imm`: `x[rt] <- x[rs] + sext_32(imm)`. -/
def execAddiu (rt rs : Reg) (imm : BitVec 16) (s : State) : Result :=
  writeResult rt (s.x rs + signExt16 imm) s

/-- R348 `slti rt, rs, imm`: `x[rt] <- (sint(x[rs]) < sint(sext_32(imm))) ? 1 : 0`. -/
def execSlti (rt rs : Reg) (imm : BitVec 16) (s : State) : Result :=
  writeResult rt (boolWord (decide ((s.x rs).toInt < (signExt16 imm).toInt))) s

/-- R349 `sltiu rt, rs, imm`: `x[rt] <- (uint(x[rs]) < uint(sext_32(imm))) ? 1 : 0`. -/
def execSltiu (rt rs : Reg) (imm : BitVec 16) (s : State) : Result :=
  writeResult rt (boolWord (decide ((s.x rs).toNat < (signExt16 imm).toNat))) s

/-- R350 `andi rt, rs, imm`: `x[rt] <- x[rs] & zext_32(imm)`. -/
def execAndi (rt rs : Reg) (imm : BitVec 16) (s : State) : Result :=
  writeResult rt (s.x rs &&& zeroExt16 imm) s

/-- R351 `ori rt, rs, imm`: `x[rt] <- x[rs] | zext_32(imm)`. -/
def execOri (rt rs : Reg) (imm : BitVec 16) (s : State) : Result :=
  writeResult rt (s.x rs ||| zeroExt16 imm) s

/-- R352 `xori rt, rs, imm`: `x[rt] <- x[rs] ^ zext_32(imm)`. -/
def execXori (rt rs : Reg) (imm : BitVec 16) (s : State) : Result :=
  writeResult rt (s.x rs ^^^ zeroExt16 imm) s

/-- R353 `lui rt, imm`: `x[rt] <- imm || 0x0000`. -/
def execLui (rt : Reg) (imm : BitVec 16) (s : State) : Result :=
  writeResult rt (upper16 imm) s

/-- R354 `sll rd, rt, sa`: `x[rd] <- x[rt] << sa`. -/
def execSll (rd rt : Reg) (sa : BitVec 5) (s : State) : Result :=
  writeResult rd (s.x rt <<< sa.toNat) s

/-- R355 `srl rd, rt, sa`: `x[rd] <- x[rt] >>u sa`. -/
def execSrl (rd rt : Reg) (sa : BitVec 5) (s : State) : Result :=
  writeResult rd (s.x rt >>> sa.toNat) s

/-- R356 `sra rd, rt, sa`: `x[rd] <- x[rt] >>s sa`. -/
def execSra (rd rt : Reg) (sa : BitVec 5) (s : State) : Result :=
  writeResult rd ((s.x rt).sshiftRight sa.toNat) s

/-- R357 `sllv rd, rt, rs`: `x[rd] <- x[rt] << x[rs][4:0]`. -/
def execSllv (rd rt rs : Reg) (s : State) : Result :=
  writeResult rd (s.x rt <<< shiftAmount (s.x rs)) s

/-- R358 `srlv rd, rt, rs`: `x[rd] <- x[rt] >>u x[rs][4:0]`. -/
def execSrlv (rd rt rs : Reg) (s : State) : Result :=
  writeResult rd (s.x rt >>> shiftAmount (s.x rs)) s

/-- R359 `srav rd, rt, rs`: `x[rd] <- x[rt] >>s x[rs][4:0]`. -/
def execSrav (rd rt rs : Reg) (s : State) : Result :=
  writeResult rd ((s.x rt).sshiftRight (shiftAmount (s.x rs))) s

/-- R360 `mult rs, rt`: `HI`, `LO` receive the signed 64-bit product. -/
def execMult (rs rt : Reg) (s : State) : Result :=
  hiLoGuard s (.next (s.setProduct ((s.x rs).toInt * (s.x rt).toInt)).advance)

/-- R361 `multu rs, rt`: `HI`, `LO` receive the unsigned 64-bit product. -/
def execMultu (rs rt : Reg) (s : State) : Result :=
  hiLoGuard s (.next (s.setProduct ((s.x rs).toNat * (s.x rt).toNat)).advance)

/-- R362 `div rs, rt`: `LO` receives the quotient truncated toward zero, `HI` the remainder with the sign of
the dividend. -/
def execDiv (rs rt : Reg) (s : State) : Result :=
  hiLoGuard s (.next (s.setQuotient (s.x rt == 0) ((s.x rs).toInt.tdiv (s.x rt).toInt)
    ((s.x rs).toInt - (s.x rs).toInt.tdiv (s.x rt).toInt * (s.x rt).toInt)).advance)

/-- R363 `divu rs, rt`: `LO` receives the unsigned quotient, `HI` the remainder. -/
def execDivu (rs rt : Reg) (s : State) : Result :=
  hiLoGuard s (.next (s.setQuotient (s.x rt == 0) (((s.x rs).toNat / (s.x rt).toNat : Nat) : Int)
    (((s.x rs).toNat % (s.x rt).toNat : Nat) : Int)).advance)

/-- R364 `mfhi rd`: `x[rd] <- HI`. -/
def execMfhi (rd : Reg) (s : State) : Result :=
  .next (s.setX rd s.hi).advance.markHiLoRead

/-- R365 `mthi rs`: `HI <- x[rs]`. -/
def execMthi (rs : Reg) (s : State) : Result :=
  hiLoGuard s (.next (s.setHiLo (s.x rs) s.lo).advance)

/-- R366 `mflo rd`: `x[rd] <- LO`. -/
def execMflo (rd : Reg) (s : State) : Result :=
  .next (s.setX rd s.lo).advance.markHiLoRead

/-- R367 `mtlo rs`: `LO <- x[rs]`. -/
def execMtlo (rs : Reg) (s : State) : Result :=
  hiLoGuard s (.next (s.setHiLo s.hi (s.x rs)).advance)

end Sys2Proof.Machine
end

