-- ==== Sys2Proof/Machine/ScalarMem.lean ====
section
/-! DEFINITION. The scalar loads and stores, `ll`, `sc` and `sync` (spec 48 section 2; PRESUMED from general
knowledge as that file says, log 46). -/

namespace Sys2Proof.Machine

/-- A scalar access of an aligned item: Address error when misaligned, else the access (R391). -/
def scalarAccess (kind : AccessKind) (size : Size) (a : Word) (k : State → Result) (s : State) : Result :=
  if aligned size a then s.access ⟨.scalar, kind, byteAddrs a size.bytes⟩ k
  else
    match kind with
    | .read => s.raise .addressErrorLoad (.address a)
    | .write => s.raise .addressErrorStore (.address a)

/-- A scalar load. -/
def scalarLoad (size : Size) (ext : Extension) (rt : Reg) (a : Word) (s : State) : Result :=
  scalarAccess .read size a
    (fun t => .next (t.setX rt (extendLoaded ext size (t.memRead a size.bytes))).advance) s

/-- A scalar store. -/
def scalarStore (size : Size) (rt : Reg) (a : Word) (s : State) : Result :=
  scalarAccess .write size a
    (fun t => .next (t.writeCells (storeCells t.cfg.endian a size.bytes (t.x rt))).advance) s

/-- `byte_k(r)`: bits `8 k + 7` to `8 k` (R397). -/
def getByte (r : Word) (k : Nat) : Byte := r.extractLsb' (8 * k) 8

/-- `byte_k(r) <- b`. -/
def setByte (r : Word) (k : Nat) (b : Byte) : Word :=
  (r &&& ~~~((0xFF : Word) <<< (8 * k))) ||| (b.setWidth 32 <<< (8 * k))

/-- The bytes of `lwl` and `swl`: addresses with the register byte each one meets, from the most significant
down (R397, R402). -/
def leftLanes (e : Endian) (a : Word) : List (Nat × Nat) :=
  match e with
  | .big => (List.range (4 - a.toNat % 4)).map fun j => (a.toNat + j, 3 - j)
  | .little => (List.range (a.toNat % 4 + 1)).map fun j => (a.toNat - j, 3 - j)

/-- The bytes of `lwr` and `swr`: addresses with the register byte each one meets, from the least significant
up (R398, R403). -/
def rightLanes (e : Endian) (a : Word) : List (Nat × Nat) :=
  match e with
  | .big => (List.range (a.toNat % 4 + 1)).map fun j => (a.toNat - j, j)
  | .little => (List.range (4 - a.toNat % 4)).map fun j => (a.toNat + j, j)

/-- The register value with the bytes of memory merged in. -/
def mergeLanes (lanes : List (Nat × Nat)) (m : Memory) (r : Word) : Word :=
  lanes.foldl (fun r l => setByte r l.2 (m.read l.1)) r

/-- The bytes that a partial store writes. -/
def laneCells (lanes : List (Nat × Nat)) (r : Word) : List Host.Cell :=
  lanes.map fun l => (l.1, getByte r l.2)

/-- `lwl` and `lwr`: no alignment exception; the other bytes of the register are kept. -/
def loadLanes (lanes : List (Nat × Nat)) (rt : Reg) (s : State) : Result :=
  s.access ⟨.scalar, .read, lanes.map fun l => l.1⟩ fun t =>
    .next (t.setX rt (mergeLanes lanes t.mem (t.x rt))).advance

/-- `swl` and `swr`: the other bytes of the memory word are kept. -/
def storeLanes (lanes : List (Nat × Nat)) (rt : Reg) (s : State) : Result :=
  s.access ⟨.scalar, .write, lanes.map fun l => l.1⟩ fun t =>
    .next (t.writeCells (laneCells lanes (t.x rt))).advance

/-- `LLbit` and `LLaddr` written. -/
def State.setLink (s : State) (bit : Bool) (addr : Word) : State :=
  { s with llBit := bit, llAddr := addr }

/-- The `unsynced` list emptied (R73). -/
def State.synced (s : State) : State := { s with unsynced := [] }

/-- R392 `lb rt, imm(rs)`: load a byte, sign-extended. -/
def execLb (rt : Reg) (imm : BitVec 16) (rs : Reg) (s : State) : Result :=
  scalarLoad .byte .sign rt (s.scalarAddr rs imm) s

/-- R393 `lbu rt, imm(rs)`: load a byte, zero-extended. -/
def execLbu (rt : Reg) (imm : BitVec 16) (rs : Reg) (s : State) : Result :=
  scalarLoad .byte .zero rt (s.scalarAddr rs imm) s

/-- R394 `lh rt, imm(rs)`: load a halfword, sign-extended. -/
def execLh (rt : Reg) (imm : BitVec 16) (rs : Reg) (s : State) : Result :=
  scalarLoad .half .sign rt (s.scalarAddr rs imm) s

/-- R395 `lhu rt, imm(rs)`: load a halfword, zero-extended. -/
def execLhu (rt : Reg) (imm : BitVec 16) (rs : Reg) (s : State) : Result :=
  scalarLoad .half .zero rt (s.scalarAddr rs imm) s

/-- R396 `lw rt, imm(rs)`: load a word. -/
def execLw (rt : Reg) (imm : BitVec 16) (rs : Reg) (s : State) : Result :=
  scalarLoad .word .sign rt (s.scalarAddr rs imm) s

/-- R397 `lwl rt, imm(rs)`: load word left. -/
def execLwl (rt : Reg) (imm : BitVec 16) (rs : Reg) (s : State) : Result :=
  loadLanes (leftLanes s.cfg.endian (s.scalarAddr rs imm)) rt s

/-- R398 `lwr rt, imm(rs)`: load word right. -/
def execLwr (rt : Reg) (imm : BitVec 16) (rs : Reg) (s : State) : Result :=
  loadLanes (rightLanes s.cfg.endian (s.scalarAddr rs imm)) rt s

/-- R399 `sb rt, imm(rs)`: store the low byte. -/
def execSb (rt : Reg) (imm : BitVec 16) (rs : Reg) (s : State) : Result :=
  scalarStore .byte rt (s.scalarAddr rs imm) s

/-- R400 `sh rt, imm(rs)`: store the low half. -/
def execSh (rt : Reg) (imm : BitVec 16) (rs : Reg) (s : State) : Result :=
  scalarStore .half rt (s.scalarAddr rs imm) s

/-- R401 `sw rt, imm(rs)`: store a word. -/
def execSw (rt : Reg) (imm : BitVec 16) (rs : Reg) (s : State) : Result :=
  scalarStore .word rt (s.scalarAddr rs imm) s

/-- R402 `swl rt, imm(rs)`: store word left. -/
def execSwl (rt : Reg) (imm : BitVec 16) (rs : Reg) (s : State) : Result :=
  storeLanes (leftLanes s.cfg.endian (s.scalarAddr rs imm)) rt s

/-- R403 `swr rt, imm(rs)`: store word right. -/
def execSwr (rt : Reg) (imm : BitVec 16) (rs : Reg) (s : State) : Result :=
  storeLanes (rightLanes s.cfg.endian (s.scalarAddr rs imm)) rt s

/-- R404 `ll rt, imm(rs)`: load a word, and link its address. -/
def execLl (rt : Reg) (imm : BitVec 16) (rs : Reg) (s : State) : Result :=
  let a := s.scalarAddr rs imm
  scalarAccess .read .word a (fun t => .next ((t.setX rt (t.memRead a 4)).setLink true a).advance) s

/-- R405 `sc rt, imm(rs)`: store a word if `LLbit` is set; `x[rt]` tells whether it was. A failing `sc`
makes no access. -/
def execSc (rt : Reg) (imm : BitVec 16) (rs : Reg) (s : State) : Result :=
  let a := s.scalarAddr rs imm
  if !aligned .word a then s.raise .addressErrorStore (.address a)
  else if !s.llBit then .next ((s.setX rt 0).setLink false s.llAddr).advance
  else if a != s.llAddr then .refused .scAddressMismatch
  else
    s.access ⟨.scalar, .write, byteAddrs a 4⟩ fun t =>
      .next (((t.writeCells (storeCells t.cfg.endian a 4 (t.x rt))).setX rt 1).setLink
        false t.llAddr).advance

/-- R406 `sync`: every earlier memory operation is ordered before every later one. -/
def execSync (s : State) : Result :=
  .next s.synced.advance

end Sys2Proof.Machine
end

