-- ==== Sys2Proof/Machine/ScalarTrap.lean ====
section
/-! DEFINITION. The conditional traps, `syscall` and `break` (spec 48 section 4; PRESUMED from general
knowledge as that file says, log 46). The `code` fields are ignored by the hardware (R431, R444). -/

namespace Sys2Proof.Machine

/-- A conditional trap: the Trap exception, or nothing (R431). -/
def condTrap (cond : Bool) (s : State) : Result :=
  if cond then s.raise .trap .none else .next s.advance

/-- R432 `tge rs, rt, code`: trap if `sint(x[rs]) >= sint(x[rt])`. -/
def execTge (rs rt : Reg) (_code : BitVec 10) (s : State) : Result :=
  condTrap (decide ((s.x rt).toInt ≤ (s.x rs).toInt)) s

/-- R433 `tgeu rs, rt, code`: trap if `uint(x[rs]) >= uint(x[rt])`. -/
def execTgeu (rs rt : Reg) (_code : BitVec 10) (s : State) : Result :=
  condTrap (decide ((s.x rt).toNat ≤ (s.x rs).toNat)) s

/-- R434 `tlt rs, rt, code`: trap if `sint(x[rs]) < sint(x[rt])`. -/
def execTlt (rs rt : Reg) (_code : BitVec 10) (s : State) : Result :=
  condTrap (decide ((s.x rs).toInt < (s.x rt).toInt)) s

/-- R435 `tltu rs, rt, code`: trap if `uint(x[rs]) < uint(x[rt])`. -/
def execTltu (rs rt : Reg) (_code : BitVec 10) (s : State) : Result :=
  condTrap (decide ((s.x rs).toNat < (s.x rt).toNat)) s

/-- R436 `teq rs, rt, code`: trap if `x[rs] = x[rt]`. -/
def execTeq (rs rt : Reg) (_code : BitVec 10) (s : State) : Result :=
  condTrap ((s.x rs) == (s.x rt)) s

/-- R437 `tne rs, rt, code`: trap if `x[rs] != x[rt]`. -/
def execTne (rs rt : Reg) (_code : BitVec 10) (s : State) : Result :=
  condTrap ((s.x rs) != (s.x rt)) s

/-- R438 `tgei rs, imm`: trap if `sint(x[rs]) >= sint(sext_32(imm))`. -/
def execTgei (rs : Reg) (imm : BitVec 16) (s : State) : Result :=
  condTrap (decide ((signExt16 imm).toInt ≤ (s.x rs).toInt)) s

/-- R439 `tgeiu rs, imm`: trap if `uint(x[rs]) >= uint(sext_32(imm))`. -/
def execTgeiu (rs : Reg) (imm : BitVec 16) (s : State) : Result :=
  condTrap (decide ((signExt16 imm).toNat ≤ (s.x rs).toNat)) s

/-- R440 `tlti rs, imm`: trap if `sint(x[rs]) < sint(sext_32(imm))`. -/
def execTlti (rs : Reg) (imm : BitVec 16) (s : State) : Result :=
  condTrap (decide ((s.x rs).toInt < (signExt16 imm).toInt)) s

/-- R441 `tltiu rs, imm`: trap if `uint(x[rs]) < uint(sext_32(imm))`. -/
def execTltiu (rs : Reg) (imm : BitVec 16) (s : State) : Result :=
  condTrap (decide ((s.x rs).toNat < (signExt16 imm).toNat)) s

/-- R442 `teqi rs, imm`: trap if `x[rs] = sext_32(imm)`. -/
def execTeqi (rs : Reg) (imm : BitVec 16) (s : State) : Result :=
  condTrap ((s.x rs) == (signExt16 imm)) s

/-- R443 `tnei rs, imm`: trap if `x[rs] != sext_32(imm)`. -/
def execTnei (rs : Reg) (imm : BitVec 16) (s : State) : Result :=
  condTrap ((s.x rs) != (signExt16 imm)) s

/-- R444 `syscall code`: always raises System call. -/
def execSyscall (_code : BitVec 20) (s : State) : Result :=
  s.raise .systemCall .none

/-- R445 `break code`: always raises Breakpoint. -/
def execBrk (_code : BitVec 20) (s : State) : Result :=
  s.raise .breakpoint .none

end Sys2Proof.Machine
end

