-- ==== Sys2Proof/Machine/VecCompare.lean ====
section
/-! DEFINITION. The vector compare, flag and conditional move instructions (spec 44). -/

namespace Sys2Proof.Machine

/-- R226 `slt.vv vw, vd, vt`: `v[vw][i] <- (sint(v[vd][i]) < sint(v[vt][i])) ? 1 : 0`. -/
def execSltVV (vw vd vt : VReg) (s : State) : Result :=
  vecInt (.sltVV vw vd vt) [vw, vd, vt] vw (s.operandsVV vd vt)
    (fun a b => boolWord (decide (a.toInt < b.toInt))) s

/-- R227 `slt.vs vw, vd, rt`: `v[vw][i] <- (sint(v[vd][i]) < sint(x[rt])) ? 1 : 0`. -/
def execSltVS (vw vd : VReg) (rt : Reg) (s : State) : Result :=
  vecInt (.sltVS vw vd rt) [vw, vd] vw (s.operandsVS vd rt)
    (fun a b => boolWord (decide (a.toInt < b.toInt))) s

/-- R228 `slt.sv vw, rt, vd`: `v[vw][i] <- (sint(x[rt]) < sint(v[vd][i])) ? 1 : 0`. -/
def execSltSV (vw : VReg) (rt : Reg) (vd : VReg) (s : State) : Result :=
  vecInt (.sltSV vw rt vd) [vw, vd] vw (s.operandsSV rt vd)
    (fun a b => boolWord (decide (a.toInt < b.toInt))) s

/-- R229 `sltu.vv vw, vd, vt`: `v[vw][i] <- (uint(v[vd][i]) < uint(v[vt][i])) ? 1 : 0`. -/
def execSltuVV (vw vd vt : VReg) (s : State) : Result :=
  vecInt (.sltuVV vw vd vt) [vw, vd, vt] vw (s.operandsVV vd vt)
    (fun a b => boolWord (decide (a.toNat < b.toNat))) s

/-- R230 `sltu.vs vw, vd, rt`: `v[vw][i] <- (uint(v[vd][i]) < uint(x[rt])) ? 1 : 0`. -/
def execSltuVS (vw vd : VReg) (rt : Reg) (s : State) : Result :=
  vecInt (.sltuVS vw vd rt) [vw, vd] vw (s.operandsVS vd rt)
    (fun a b => boolWord (decide (a.toNat < b.toNat))) s

/-- R231 `sltu.sv vw, rt, vd`: `v[vw][i] <- (uint(x[rt]) < uint(v[vd][i])) ? 1 : 0`. -/
def execSltuSV (vw : VReg) (rt : Reg) (vd : VReg) (s : State) : Result :=
  vecInt (.sltuSV vw rt vd) [vw, vd] vw (s.operandsSV rt vd)
    (fun a b => boolWord (decide (a.toNat < b.toNat))) s

/-- R232 `seq.vv vw, vd, vt`: `v[vw][i] <- (v[vd][i] = v[vt][i]) ? 1 : 0`. -/
def execSeqVV (vw vd vt : VReg) (s : State) : Result :=
  vecInt (.seqVV vw vd vt) [vw, vd, vt] vw (s.operandsVV vd vt) (fun a b => boolWord (a == b)) s

/-- R233 `seq.vs vw, vd, rt`: `v[vw][i] <- (v[vd][i] = x[rt]) ? 1 : 0`. -/
def execSeqVS (vw vd : VReg) (rt : Reg) (s : State) : Result :=
  vecInt (.seqVS vw vd rt) [vw, vd] vw (s.operandsVS vd rt) (fun a b => boolWord (a == b)) s

/-- R234 `flt.vv vd, vt`: `vcond[i] <- (sint(v[vd][i]) < sint(v[vt][i]))`. -/
def execFltVV (vd vt : VReg) (s : State) : Result :=
  vecFlag (.fltVV vd vt) [vd, vt] (s.operandsVV vd vt) (fun a b => decide (a.toInt < b.toInt)) s

/-- R235 `flt.vs vd, rt`: `vcond[i] <- (sint(v[vd][i]) < sint(x[rt]))`. -/
def execFltVS (vd : VReg) (rt : Reg) (s : State) : Result :=
  vecFlag (.fltVS vd rt) [vd] (s.operandsVS vd rt) (fun a b => decide (a.toInt < b.toInt)) s

/-- R236 `flt.sv rt, vd`: `vcond[i] <- (sint(x[rt]) < sint(v[vd][i]))`. -/
def execFltSV (rt : Reg) (vd : VReg) (s : State) : Result :=
  vecFlag (.fltSV rt vd) [vd] (s.operandsSV rt vd) (fun a b => decide (a.toInt < b.toInt)) s

/-- R237 `fltu.vv vd, vt`: `vcond[i] <- (uint(v[vd][i]) < uint(v[vt][i]))`. -/
def execFltuVV (vd vt : VReg) (s : State) : Result :=
  vecFlag (.fltuVV vd vt) [vd, vt] (s.operandsVV vd vt) (fun a b => decide (a.toNat < b.toNat)) s

/-- R238 `fltu.vs vd, rt`: `vcond[i] <- (uint(v[vd][i]) < uint(x[rt]))`. -/
def execFltuVS (vd : VReg) (rt : Reg) (s : State) : Result :=
  vecFlag (.fltuVS vd rt) [vd] (s.operandsVS vd rt) (fun a b => decide (a.toNat < b.toNat)) s

/-- R239 `fltu.sv rt, vd`: `vcond[i] <- (uint(x[rt]) < uint(v[vd][i]))`. -/
def execFltuSV (rt : Reg) (vd : VReg) (s : State) : Result :=
  vecFlag (.fltuSV rt vd) [vd] (s.operandsSV rt vd) (fun a b => decide (a.toNat < b.toNat)) s

/-- R240 `feq.vv vd, vt`: `vcond[i] <- (v[vd][i] = v[vt][i])`. -/
def execFeqVV (vd vt : VReg) (s : State) : Result :=
  vecFlag (.feqVV vd vt) [vd, vt] (s.operandsVV vd vt) (fun a b => a == b) s

/-- R241 `feq.vs vd, rt`: `vcond[i] <- (v[vd][i] = x[rt])`. -/
def execFeqVS (vd : VReg) (rt : Reg) (s : State) : Result :=
  vecFlag (.feqVS vd rt) [vd] (s.operandsVS vd rt) (fun a b => a == b) s

/-- R242 `cmvnez.vv vw, vd, vt`: `v[vw][i] <- v[vt][i]` where `v[vd][i] != 0`. -/
def execCmvnezVV (vw vd vt : VReg) (s : State) : Result :=
  vecMove (.cmvnezVV vw vd vt) [vw, vd, vt] vw (s.operandsVV vd vt) (fun a => a != 0) s

/-- R243 `cmvgez.vv vw, vd, vt`: `v[vw][i] <- v[vt][i]` where `sint(v[vd][i]) >= 0`. -/
def execCmvgezVV (vw vd vt : VReg) (s : State) : Result :=
  vecMove (.cmvgezVV vw vd vt) [vw, vd, vt] vw (s.operandsVV vd vt) (fun a => decide (0 ≤ a.toInt)) s

/-- R244 `cmvlez.vv vw, vd, vt`: `v[vw][i] <- v[vt][i]` where `sint(v[vd][i]) <= 0`. -/
def execCmvlezVV (vw vd vt : VReg) (s : State) : Result :=
  vecMove (.cmvlezVV vw vd vt) [vw, vd, vt] vw (s.operandsVV vd vt) (fun a => decide (a.toInt ≤ 0)) s

/-- R245 `cmveqz.vv vw, vd, vt`: `v[vw][i] <- v[vt][i]` where `v[vd][i] = 0`. -/
def execCmveqzVV (vw vd vt : VReg) (s : State) : Result :=
  vecMove (.cmveqzVV vw vd vt) [vw, vd, vt] vw (s.operandsVV vd vt) (fun a => a == 0) s

/-- R246 `cmvltz.vv vw, vd, vt`: `v[vw][i] <- v[vt][i]` where `sint(v[vd][i]) < 0`. -/
def execCmvltzVV (vw vd vt : VReg) (s : State) : Result :=
  vecMove (.cmvltzVV vw vd vt) [vw, vd, vt] vw (s.operandsVV vd vt) (fun a => decide (a.toInt < 0)) s

/-- R247 `cmvgtz.vv vw, vd, vt`: `v[vw][i] <- v[vt][i]` where `sint(v[vd][i]) > 0`. -/
def execCmvgtzVV (vw vd vt : VReg) (s : State) : Result :=
  vecMove (.cmvgtzVV vw vd vt) [vw, vd, vt] vw (s.operandsVV vd vt) (fun a => decide (0 < a.toInt)) s

/-- R248 `cmvnez.vs vw, vd, rt`: `v[vw][i] <- x[rt]` where `v[vd][i] != 0`. -/
def execCmvnezVS (vw vd : VReg) (rt : Reg) (s : State) : Result :=
  vecMove (.cmvnezVS vw vd rt) [vw, vd] vw (s.operandsVS vd rt) (fun a => a != 0) s

/-- R249 `cmvgez.vs vw, vd, rt`: `v[vw][i] <- x[rt]` where `sint(v[vd][i]) >= 0`. -/
def execCmvgezVS (vw vd : VReg) (rt : Reg) (s : State) : Result :=
  vecMove (.cmvgezVS vw vd rt) [vw, vd] vw (s.operandsVS vd rt) (fun a => decide (0 ≤ a.toInt)) s

/-- R250 `cmvlez.vs vw, vd, rt`: `v[vw][i] <- x[rt]` where `sint(v[vd][i]) <= 0`. -/
def execCmvlezVS (vw vd : VReg) (rt : Reg) (s : State) : Result :=
  vecMove (.cmvlezVS vw vd rt) [vw, vd] vw (s.operandsVS vd rt) (fun a => decide (a.toInt ≤ 0)) s

/-- R251 `cmveqz.vs vw, vd, rt`: `v[vw][i] <- x[rt]` where `v[vd][i] = 0`. -/
def execCmveqzVS (vw vd : VReg) (rt : Reg) (s : State) : Result :=
  vecMove (.cmveqzVS vw vd rt) [vw, vd] vw (s.operandsVS vd rt) (fun a => a == 0) s

/-- R252 `cmvltz.vs vw, vd, rt`: `v[vw][i] <- x[rt]` where `sint(v[vd][i]) < 0`. -/
def execCmvltzVS (vw vd : VReg) (rt : Reg) (s : State) : Result :=
  vecMove (.cmvltzVS vw vd rt) [vw, vd] vw (s.operandsVS vd rt) (fun a => decide (a.toInt < 0)) s

/-- R253 `cmvgtz.vs vw, vd, rt`: `v[vw][i] <- x[rt]` where `sint(v[vd][i]) > 0`. -/
def execCmvgtzVS (vw vd : VReg) (rt : Reg) (s : State) : Result :=
  vecMove (.cmvgtzVS vw vd rt) [vw, vd] vw (s.operandsVS vd rt) (fun a => decide (0 < a.toInt)) s

end Sys2Proof.Machine
end

