-- ==== Sys2Proof/Machine/VecFixed.lean ====
section
/-! DEFINITION. The vector fixed-point instructions (spec 45 and 46). -/

namespace Sys2Proof.Machine

/-- R276 `fxadd.vv vw, vd, vt, rd`: `FxAddSub(v[vd][i], v[vt][i], x[rd], false)` for every element. -/
def execFxaddVV (vw vd vt : VReg) (rd : Reg) (s : State) : Result :=
  vecFixed (.fxaddVV vw vd vt rd) [vw, vd, vt] vw rd (s.operandsVV vd vt) .add s

/-- R277 `fxadd.vs vw, vd, rt, rd`: `FxAddSub(v[vd][i], x[rt], x[rd], false)` for every element. -/
def execFxaddVS (vw vd : VReg) (rt rd : Reg) (s : State) : Result :=
  vecFixed (.fxaddVS vw vd rt rd) [vw, vd] vw rd (s.operandsVS vd rt) .add s

/-- R278 `fxadd.sv vw, rt, vd, rd`: `FxAddSub(x[rt], v[vd][i], x[rd], false)` for every element. -/
def execFxaddSV (vw : VReg) (rt : Reg) (vd : VReg) (rd : Reg) (s : State) : Result :=
  vecFixed (.fxaddSV vw rt vd rd) [vw, vd] vw rd (s.operandsSV rt vd) .add s

/-- R279 `fxsub.vv vw, vd, vt, rd`: `FxAddSub(v[vd][i], v[vt][i], x[rd], true)` for every element. -/
def execFxsubVV (vw vd vt : VReg) (rd : Reg) (s : State) : Result :=
  vecFixed (.fxsubVV vw vd vt rd) [vw, vd, vt] vw rd (s.operandsVV vd vt) .sub s

/-- R280 `fxsub.vs vw, vd, rt, rd`: `FxAddSub(v[vd][i], x[rt], x[rd], true)` for every element. -/
def execFxsubVS (vw vd : VReg) (rt rd : Reg) (s : State) : Result :=
  vecFixed (.fxsubVS vw vd rt rd) [vw, vd] vw rd (s.operandsVS vd rt) .sub s

/-- R281 `fxsub.sv vw, rt, vd, rd`: `FxAddSub(x[rt], v[vd][i], x[rd], true)` for every element. -/
def execFxsubSV (vw : VReg) (rt : Reg) (vd : VReg) (rd : Reg) (s : State) : Result :=
  vecFixed (.fxsubSV vw rt vd rd) [vw, vd] vw rd (s.operandsSV rt vd) .sub s

/-- R282 `fxmul.vv vw, vd, vt, rd`: `FxMul(v[vd][i], v[vt][i], x[rd])` for every element. -/
def execFxmulVV (vw vd vt : VReg) (rd : Reg) (s : State) : Result :=
  vecFixed (.fxmulVV vw vd vt rd) [vw, vd, vt] vw rd (s.operandsVV vd vt) .mul s

/-- R283 `fxmul.vs vw, vd, rt, rd`: `FxMul(v[vd][i], x[rt], x[rd])` for every element. -/
def execFxmulVS (vw vd : VReg) (rt rd : Reg) (s : State) : Result :=
  vecFixed (.fxmulVS vw vd rt rd) [vw, vd] vw rd (s.operandsVS vd rt) .mul s

/-- R284 `fxmul.sv vw, rt, vd, rd`: `FxMul(x[rt], v[vd][i], x[rd])` for every element. -/
def execFxmulSV (vw : VReg) (rt : Reg) (vd : VReg) (rd : Reg) (s : State) : Result :=
  vecFixed (.fxmulSV vw rt vd rd) [vw, vd] vw rd (s.operandsFxmulSV rt vd rd) .mul s

end Sys2Proof.Machine
end

