-- ==== Sys2Proof/Machine/VecInt.lean ====
section
/-! DEFINITION. The vector integer arithmetic, logical and shift instructions (spec 43). -/

namespace Sys2Proof.Machine

/-- R188 `and.vv vw, vd, vt`: `v[vw][i] <- v[vd][i] & v[vt][i]`. -/
def execAndVV (vw vd vt : VReg) (s : State) : Result :=
  vecInt (.andVV vw vd vt) [vw, vd, vt] vw (s.operandsVV vd vt) (fun a b => a &&& b) s

/-- R189 `and.vs vw, vd, rt`: `v[vw][i] <- v[vd][i] & x[rt]`. -/
def execAndVS (vw vd : VReg) (rt : Reg) (s : State) : Result :=
  vecInt (.andVS vw vd rt) [vw, vd] vw (s.operandsVS vd rt) (fun a b => a &&& b) s

/-- R190 `or.vv vw, vd, vt`: `v[vw][i] <- v[vd][i] | v[vt][i]`. -/
def execOrVV (vw vd vt : VReg) (s : State) : Result :=
  vecInt (.orVV vw vd vt) [vw, vd, vt] vw (s.operandsVV vd vt) (fun a b => a ||| b) s

/-- R191 `or.vs vw, vd, rt`: `v[vw][i] <- v[vd][i] | x[rt]`. -/
def execOrVS (vw vd : VReg) (rt : Reg) (s : State) : Result :=
  vecInt (.orVS vw vd rt) [vw, vd] vw (s.operandsVS vd rt) (fun a b => a ||| b) s

/-- R192 `xor.vv vw, vd, vt`: `v[vw][i] <- v[vd][i] ^ v[vt][i]`. -/
def execXorVV (vw vd vt : VReg) (s : State) : Result :=
  vecInt (.xorVV vw vd vt) [vw, vd, vt] vw (s.operandsVV vd vt) (fun a b => a ^^^ b) s

/-- R193 `xor.vs vw, vd, rt`: `v[vw][i] <- v[vd][i] ^ x[rt]`. -/
def execXorVS (vw vd : VReg) (rt : Reg) (s : State) : Result :=
  vecInt (.xorVS vw vd rt) [vw, vd] vw (s.operandsVS vd rt) (fun a b => a ^^^ b) s

/-- R194 `nor.vv vw, vd, vt`: `v[vw][i] <- ~(v[vd][i] | v[vt][i])`. -/
def execNorVV (vw vd vt : VReg) (s : State) : Result :=
  vecInt (.norVV vw vd vt) [vw, vd, vt] vw (s.operandsVV vd vt) (fun a b => ~~~(a ||| b)) s

/-- R195 `nor.vs vw, vd, rt`: `v[vw][i] <- ~(v[vd][i] | x[rt])`. -/
def execNorVS (vw vd : VReg) (rt : Reg) (s : State) : Result :=
  vecInt (.norVS vw vd rt) [vw, vd] vw (s.operandsVS vd rt) (fun a b => ~~~(a ||| b)) s

/-- R196 `add.vv vw, vd, vt`: `v[vw][i] <- v[vd][i] + v[vt][i]`, and `vovf[i]` set on signed overflow. -/
def execAddVV (vw vd vt : VReg) (s : State) : Result :=
  vecIntOverflow (.addVV vw vd vt) [vw, vd, vt] vw (s.operandsVV vd vt) (fun a b => a + b) addOverflows s

/-- R197 `add.vs vw, vd, rt`: `v[vw][i] <- v[vd][i] + x[rt]`, and `vovf[i]` set on signed overflow. -/
def execAddVS (vw vd : VReg) (rt : Reg) (s : State) : Result :=
  vecIntOverflow (.addVS vw vd rt) [vw, vd] vw (s.operandsVS vd rt) (fun a b => a + b) addOverflows s

/-- R198 `addu.vv vw, vd, vt`: `v[vw][i] <- v[vd][i] + v[vt][i]`. -/
def execAdduVV (vw vd vt : VReg) (s : State) : Result :=
  vecInt (.adduVV vw vd vt) [vw, vd, vt] vw (s.operandsVV vd vt) (fun a b => a + b) s

/-- R199 `addu.vs vw, vd, rt`: `v[vw][i] <- v[vd][i] + x[rt]`. -/
def execAdduVS (vw vd : VReg) (rt : Reg) (s : State) : Result :=
  vecInt (.adduVS vw vd rt) [vw, vd] vw (s.operandsVS vd rt) (fun a b => a + b) s

/-- R200 `sub.vv vw, vd, vt`: `v[vw][i] <- v[vd][i] - v[vt][i]`, and `vovf[i]` set on signed overflow. -/
def execSubVV (vw vd vt : VReg) (s : State) : Result :=
  vecIntOverflow (.subVV vw vd vt) [vw, vd, vt] vw (s.operandsVV vd vt) (fun a b => a - b) subOverflows s

/-- R201 `sub.vs vw, vd, rt`: `v[vw][i] <- v[vd][i] - x[rt]`, and `vovf[i]` set on signed overflow. -/
def execSubVS (vw vd : VReg) (rt : Reg) (s : State) : Result :=
  vecIntOverflow (.subVS vw vd rt) [vw, vd] vw (s.operandsVS vd rt) (fun a b => a - b) subOverflows s

/-- R202 `sub.sv vw, rt, vd`: `v[vw][i] <- x[rt] - v[vd][i]`, and `vovf[i]` set on signed overflow. -/
def execSubSV (vw : VReg) (rt : Reg) (vd : VReg) (s : State) : Result :=
  vecIntOverflow (.subSV vw rt vd) [vw, vd] vw (s.operandsSV rt vd) (fun a b => a - b) subOverflows s

/-- R203 `subu.vv vw, vd, vt`: `v[vw][i] <- v[vd][i] - v[vt][i]`. -/
def execSubuVV (vw vd vt : VReg) (s : State) : Result :=
  vecInt (.subuVV vw vd vt) [vw, vd, vt] vw (s.operandsVV vd vt) (fun a b => a - b) s

/-- R204 `subu.vs vw, vd, rt`: `v[vw][i] <- v[vd][i] - x[rt]`. -/
def execSubuVS (vw vd : VReg) (rt : Reg) (s : State) : Result :=
  vecInt (.subuVS vw vd rt) [vw, vd] vw (s.operandsVS vd rt) (fun a b => a - b) s

/-- R205 `subu.sv vw, rt, vd`: `v[vw][i] <- x[rt] - v[vd][i]`. -/
def execSubuSV (vw : VReg) (rt : Reg) (vd : VReg) (s : State) : Result :=
  vecInt (.subuSV vw rt vd) [vw, vd] vw (s.operandsSV rt vd) (fun a b => a - b) s

/-- R206 `sllv.vv vw, vd, vt`: `v[vw][i] <- v[vd][i] << v[vt][i][4:0]`. -/
def execSllvVV (vw vd vt : VReg) (s : State) : Result :=
  vecInt (.sllvVV vw vd vt) [vw, vd, vt] vw (s.operandsVV vd vt) (fun a b => a <<< shiftAmount b) s

/-- R207 `sllv.vs vw, vd, rt`: `v[vw][i] <- v[vd][i] << x[rt][4:0]`. -/
def execSllvVS (vw vd : VReg) (rt : Reg) (s : State) : Result :=
  vecInt (.sllvVS vw vd rt) [vw, vd] vw (s.operandsVS vd rt) (fun a b => a <<< shiftAmount b) s

/-- R208 `sllv.sv vw, rt, vd`: `v[vw][i] <- x[rt] << v[vd][i][4:0]`. -/
def execSllvSV (vw : VReg) (rt : Reg) (vd : VReg) (s : State) : Result :=
  vecInt (.sllvSV vw rt vd) [vw, vd] vw (s.operandsSV rt vd) (fun a b => a <<< shiftAmount b) s

/-- R209 `srav.vv vw, vd, vt`: `v[vw][i] <- v[vd][i] >>s v[vt][i][4:0]`. -/
def execSravVV (vw vd vt : VReg) (s : State) : Result :=
  vecInt (.sravVV vw vd vt) [vw, vd, vt] vw (s.operandsVV vd vt)
    (fun a b => a.sshiftRight (shiftAmount b)) s

/-- R210 `srav.vs vw, vd, rt`: `v[vw][i] <- v[vd][i] >>s x[rt][4:0]`. -/
def execSravVS (vw vd : VReg) (rt : Reg) (s : State) : Result :=
  vecInt (.sravVS vw vd rt) [vw, vd] vw (s.operandsVS vd rt) (fun a b => a.sshiftRight (shiftAmount b)) s

/-- R211 `srav.sv vw, rt, vd`: `v[vw][i] <- x[rt] >>s v[vd][i][4:0]`. -/
def execSravSV (vw : VReg) (rt : Reg) (vd : VReg) (s : State) : Result :=
  vecInt (.sravSV vw rt vd) [vw, vd] vw (s.operandsSV rt vd) (fun a b => a.sshiftRight (shiftAmount b)) s

/-- R212 `srlv.vv vw, vd, vt`: `v[vw][i] <- v[vd][i] >>u v[vt][i][4:0]`. -/
def execSrlvVV (vw vd vt : VReg) (s : State) : Result :=
  vecInt (.srlvVV vw vd vt) [vw, vd, vt] vw (s.operandsVV vd vt) (fun a b => a >>> shiftAmount b) s

/-- R213 `srlv.vs vw, vd, rt`: `v[vw][i] <- v[vd][i] >>u x[rt][4:0]`. -/
def execSrlvVS (vw vd : VReg) (rt : Reg) (s : State) : Result :=
  vecInt (.srlvVS vw vd rt) [vw, vd] vw (s.operandsVS vd rt) (fun a b => a >>> shiftAmount b) s

/-- R214 `srlv.sv vw, rt, vd`: `v[vw][i] <- x[rt] >>u v[vd][i][4:0]`. -/
def execSrlvSV (vw : VReg) (rt : Reg) (vd : VReg) (s : State) : Result :=
  vecInt (.srlvSV vw rt vd) [vw, vd] vw (s.operandsSV rt vd) (fun a b => a >>> shiftAmount b) s

end Sys2Proof.Machine
end

