-- ==== Sys2Proof/Machine/VecMem.lean ====
section
/-! DEFINITION. The 24 vector load and store instructions (spec 42). -/

namespace Sys2Proof.Machine

/-- R150 `lbai.v vd, rd, rt`: load bytes sign-extended, unit-stride with auto-increment. -/
def execLbaiV (vd : VReg) (rd rt : Reg) (s : State) : Result :=
  vecLoad (.lbaiV vd rd rt) vd (.unit rd rt) .byte .sign s

/-- R151 `lhai.v vd, rd, rt`: load halfwords sign-extended, unit-stride with auto-increment. -/
def execLhaiV (vd : VReg) (rd rt : Reg) (s : State) : Result :=
  vecLoad (.lhaiV vd rd rt) vd (.unit rd rt) .half .sign s

/-- R152 `lwai.v vd, rd, rt`: load words, unit-stride with auto-increment. -/
def execLwaiV (vd : VReg) (rd rt : Reg) (s : State) : Result :=
  vecLoad (.lwaiV vd rd rt) vd (.unit rd rt) .word .sign s

/-- R153 `lbuai.v vd, rd, rt`: load bytes zero-extended, unit-stride with auto-increment. -/
def execLbuaiV (vd : VReg) (rd rt : Reg) (s : State) : Result :=
  vecLoad (.lbuaiV vd rd rt) vd (.unit rd rt) .byte .zero s

/-- R154 `lhuai.v vd, rd, rt`: load halfwords zero-extended, unit-stride with auto-increment. -/
def execLhuaiV (vd : VReg) (rd rt : Reg) (s : State) : Result :=
  vecLoad (.lhuaiV vd rd rt) vd (.unit rd rt) .half .zero s

/-- R155 `lbx.v vd, rd, vt`: load bytes sign-extended, indexed. -/
def execLbxV (vd : VReg) (rd : Reg) (vt : VReg) (s : State) : Result :=
  vecLoad (.lbxV vd rd vt) vd (.indexed rd vt) .byte .sign s

/-- R156 `lhx.v vd, rd, vt`: load halfwords sign-extended, indexed. -/
def execLhxV (vd : VReg) (rd : Reg) (vt : VReg) (s : State) : Result :=
  vecLoad (.lhxV vd rd vt) vd (.indexed rd vt) .half .sign s

/-- R157 `lwx.v vd, rd, vt`: load words, indexed. -/
def execLwxV (vd : VReg) (rd : Reg) (vt : VReg) (s : State) : Result :=
  vecLoad (.lwxV vd rd vt) vd (.indexed rd vt) .word .sign s

/-- R158 `lbux.v vd, rd, vt`: load bytes zero-extended, indexed. -/
def execLbuxV (vd : VReg) (rd : Reg) (vt : VReg) (s : State) : Result :=
  vecLoad (.lbuxV vd rd vt) vd (.indexed rd vt) .byte .zero s

/-- R159 `lhux.v vd, rd, vt`: load halfwords zero-extended, indexed. -/
def execLhuxV (vd : VReg) (rd : Reg) (vt : VReg) (s : State) : Result :=
  vecLoad (.lhuxV vd rd vt) vd (.indexed rd vt) .half .zero s

/-- R160 `lbst.v vd, rd, rt`: load bytes sign-extended, strided. -/
def execLbstV (vd : VReg) (rd rt : Reg) (s : State) : Result :=
  vecLoad (.lbstV vd rd rt) vd (.strided rd rt) .byte .sign s

/-- R161 `lhst.v vd, rd, rt`: load halfwords sign-extended, strided. -/
def execLhstV (vd : VReg) (rd rt : Reg) (s : State) : Result :=
  vecLoad (.lhstV vd rd rt) vd (.strided rd rt) .half .sign s

/-- R162 `lwst.v vd, rd, rt`: load words, strided. -/
def execLwstV (vd : VReg) (rd rt : Reg) (s : State) : Result :=
  vecLoad (.lwstV vd rd rt) vd (.strided rd rt) .word .sign s

/-- R163 `lbust.v vd, rd, rt`: load bytes zero-extended, strided. -/
def execLbustV (vd : VReg) (rd rt : Reg) (s : State) : Result :=
  vecLoad (.lbustV vd rd rt) vd (.strided rd rt) .byte .zero s

/-- R164 `lhust.v vd, rd, rt`: load halfwords zero-extended, strided. -/
def execLhustV (vd : VReg) (rd rt : Reg) (s : State) : Result :=
  vecLoad (.lhustV vd rd rt) vd (.strided rd rt) .half .zero s

/-- R165 `sbai.v vd, rd, rt`: store bytes, unit-stride with auto-increment. -/
def execSbaiV (vd : VReg) (rd rt : Reg) (s : State) : Result :=
  vecStore (.sbaiV vd rd rt) vd (.unit rd rt) .byte s

/-- R166 `shai.v vd, rd, rt`: store halfwords, unit-stride with auto-increment. -/
def execShaiV (vd : VReg) (rd rt : Reg) (s : State) : Result :=
  vecStore (.shaiV vd rd rt) vd (.unit rd rt) .half s

/-- R167 `swai.v vd, rd, rt`: store words, unit-stride with auto-increment. -/
def execSwaiV (vd : VReg) (rd rt : Reg) (s : State) : Result :=
  vecStore (.swaiV vd rd rt) vd (.unit rd rt) .word s

/-- R168 `sbx.v vd, rd, vt`: store bytes, indexed. -/
def execSbxV (vd : VReg) (rd : Reg) (vt : VReg) (s : State) : Result :=
  vecStore (.sbxV vd rd vt) vd (.indexed rd vt) .byte s

/-- R169 `shx.v vd, rd, vt`: store halfwords, indexed. -/
def execShxV (vd : VReg) (rd : Reg) (vt : VReg) (s : State) : Result :=
  vecStore (.shxV vd rd vt) vd (.indexed rd vt) .half s

/-- R170 `swx.v vd, rd, vt`: store words, indexed. -/
def execSwxV (vd : VReg) (rd : Reg) (vt : VReg) (s : State) : Result :=
  vecStore (.swxV vd rd vt) vd (.indexed rd vt) .word s

/-- R171 `sbst.v vd, rd, rt`: store bytes, strided. -/
def execSbstV (vd : VReg) (rd rt : Reg) (s : State) : Result :=
  vecStore (.sbstV vd rd rt) vd (.strided rd rt) .byte s

/-- R172 `shst.v vd, rd, rt`: store halfwords, strided. -/
def execShstV (vd : VReg) (rd rt : Reg) (s : State) : Result :=
  vecStore (.shstV vd rd rt) vd (.strided rd rt) .half s

/-- R173 `swst.v vd, rd, rt`: store words, strided. -/
def execSwstV (vd : VReg) (rd rt : Reg) (s : State) : Result :=
  vecStore (.swstV vd rd rt) vd (.strided rd rt) .word s

end Sys2Proof.Machine
end

