-- ==== Sys2Proof/Machine/Dispatch.lean ====
section
/-! DEFINITION. The effect of an instruction: one arm for each row of spec/opcode_table.json, one meaning for
each arm. -/

namespace Sys2Proof.Machine

/-- The effect of an instruction. -/
def exec (i : Instr) (s : State) : Host.Outcome State Fault Refusal :=
  match i with
  | .cfvu rt cs => Sys2Proof.Machine.execCfvu rt cs s
  | .ctvu rt cs => Sys2Proof.Machine.execCtvu rt cs s
  | .vextV vd vt rd => Sys2Proof.Machine.execVextV vd vt rd s
  | .vinsS rt vd rd => Sys2Proof.Machine.execVinsS rt vd rd s
  | .vextS rt vd rd => Sys2Proof.Machine.execVextS rt vd rd s
  | .lbaiV vd rd rt => Sys2Proof.Machine.execLbaiV vd rd rt s
  | .lhaiV vd rd rt => Sys2Proof.Machine.execLhaiV vd rd rt s
  | .lwaiV vd rd rt => Sys2Proof.Machine.execLwaiV vd rd rt s
  | .lbuaiV vd rd rt => Sys2Proof.Machine.execLbuaiV vd rd rt s
  | .lhuaiV vd rd rt => Sys2Proof.Machine.execLhuaiV vd rd rt s
  | .lbxV vd rd vt => Sys2Proof.Machine.execLbxV vd rd vt s
  | .lhxV vd rd vt => Sys2Proof.Machine.execLhxV vd rd vt s
  | .lwxV vd rd vt => Sys2Proof.Machine.execLwxV vd rd vt s
  | .lbuxV vd rd vt => Sys2Proof.Machine.execLbuxV vd rd vt s
  | .lhuxV vd rd vt => Sys2Proof.Machine.execLhuxV vd rd vt s
  | .lbstV vd rd rt => Sys2Proof.Machine.execLbstV vd rd rt s
  | .lhstV vd rd rt => Sys2Proof.Machine.execLhstV vd rd rt s
  | .lwstV vd rd rt => Sys2Proof.Machine.execLwstV vd rd rt s
  | .lbustV vd rd rt => Sys2Proof.Machine.execLbustV vd rd rt s
  | .lhustV vd rd rt => Sys2Proof.Machine.execLhustV vd rd rt s
  | .sbaiV vd rd rt => Sys2Proof.Machine.execSbaiV vd rd rt s
  | .shaiV vd rd rt => Sys2Proof.Machine.execShaiV vd rd rt s
  | .swaiV vd rd rt => Sys2Proof.Machine.execSwaiV vd rd rt s
  | .sbxV vd rd vt => Sys2Proof.Machine.execSbxV vd rd vt s
  | .shxV vd rd vt => Sys2Proof.Machine.execShxV vd rd vt s
  | .swxV vd rd vt => Sys2Proof.Machine.execSwxV vd rd vt s
  | .sbstV vd rd rt => Sys2Proof.Machine.execSbstV vd rd rt s
  | .shstV vd rd rt => Sys2Proof.Machine.execShstV vd rd rt s
  | .swstV vd rd rt => Sys2Proof.Machine.execSwstV vd rd rt s
  | .andVV vw vd vt => Sys2Proof.Machine.execAndVV vw vd vt s
  | .andVS vw vd rt => Sys2Proof.Machine.execAndVS vw vd rt s
  | .orVV vw vd vt => Sys2Proof.Machine.execOrVV vw vd vt s
  | .orVS vw vd rt => Sys2Proof.Machine.execOrVS vw vd rt s
  | .xorVV vw vd vt => Sys2Proof.Machine.execXorVV vw vd vt s
  | .xorVS vw vd rt => Sys2Proof.Machine.execXorVS vw vd rt s
  | .norVV vw vd vt => Sys2Proof.Machine.execNorVV vw vd vt s
  | .norVS vw vd rt => Sys2Proof.Machine.execNorVS vw vd rt s
  | .addVV vw vd vt => Sys2Proof.Machine.execAddVV vw vd vt s
  | .addVS vw vd rt => Sys2Proof.Machine.execAddVS vw vd rt s
  | .adduVV vw vd vt => Sys2Proof.Machine.execAdduVV vw vd vt s
  | .adduVS vw vd rt => Sys2Proof.Machine.execAdduVS vw vd rt s
  | .subVV vw vd vt => Sys2Proof.Machine.execSubVV vw vd vt s
  | .subVS vw vd rt => Sys2Proof.Machine.execSubVS vw vd rt s
  | .subSV vw rt vd => Sys2Proof.Machine.execSubSV vw rt vd s
  | .subuVV vw vd vt => Sys2Proof.Machine.execSubuVV vw vd vt s
  | .subuVS vw vd rt => Sys2Proof.Machine.execSubuVS vw vd rt s
  | .subuSV vw rt vd => Sys2Proof.Machine.execSubuSV vw rt vd s
  | .sllvVV vw vd vt => Sys2Proof.Machine.execSllvVV vw vd vt s
  | .sllvVS vw vd rt => Sys2Proof.Machine.execSllvVS vw vd rt s
  | .sllvSV vw rt vd => Sys2Proof.Machine.execSllvSV vw rt vd s
  | .sravVV vw vd vt => Sys2Proof.Machine.execSravVV vw vd vt s
  | .sravVS vw vd rt => Sys2Proof.Machine.execSravVS vw vd rt s
  | .sravSV vw rt vd => Sys2Proof.Machine.execSravSV vw rt vd s
  | .srlvVV vw vd vt => Sys2Proof.Machine.execSrlvVV vw vd vt s
  | .srlvVS vw vd rt => Sys2Proof.Machine.execSrlvVS vw vd rt s
  | .srlvSV vw rt vd => Sys2Proof.Machine.execSrlvSV vw rt vd s
  | .sltVV vw vd vt => Sys2Proof.Machine.execSltVV vw vd vt s
  | .sltVS vw vd rt => Sys2Proof.Machine.execSltVS vw vd rt s
  | .sltSV vw rt vd => Sys2Proof.Machine.execSltSV vw rt vd s
  | .sltuVV vw vd vt => Sys2Proof.Machine.execSltuVV vw vd vt s
  | .sltuVS vw vd rt => Sys2Proof.Machine.execSltuVS vw vd rt s
  | .sltuSV vw rt vd => Sys2Proof.Machine.execSltuSV vw rt vd s
  | .seqVV vw vd vt => Sys2Proof.Machine.execSeqVV vw vd vt s
  | .seqVS vw vd rt => Sys2Proof.Machine.execSeqVS vw vd rt s
  | .fltVV vd vt => Sys2Proof.Machine.execFltVV vd vt s
  | .fltVS vd rt => Sys2Proof.Machine.execFltVS vd rt s
  | .fltSV rt vd => Sys2Proof.Machine.execFltSV rt vd s
  | .fltuVV vd vt => Sys2Proof.Machine.execFltuVV vd vt s
  | .fltuVS vd rt => Sys2Proof.Machine.execFltuVS vd rt s
  | .fltuSV rt vd => Sys2Proof.Machine.execFltuSV rt vd s
  | .feqVV vd vt => Sys2Proof.Machine.execFeqVV vd vt s
  | .feqVS vd rt => Sys2Proof.Machine.execFeqVS vd rt s
  | .cmvnezVV vw vd vt => Sys2Proof.Machine.execCmvnezVV vw vd vt s
  | .cmvgezVV vw vd vt => Sys2Proof.Machine.execCmvgezVV vw vd vt s
  | .cmvlezVV vw vd vt => Sys2Proof.Machine.execCmvlezVV vw vd vt s
  | .cmveqzVV vw vd vt => Sys2Proof.Machine.execCmveqzVV vw vd vt s
  | .cmvltzVV vw vd vt => Sys2Proof.Machine.execCmvltzVV vw vd vt s
  | .cmvgtzVV vw vd vt => Sys2Proof.Machine.execCmvgtzVV vw vd vt s
  | .cmvnezVS vw vd rt => Sys2Proof.Machine.execCmvnezVS vw vd rt s
  | .cmvgezVS vw vd rt => Sys2Proof.Machine.execCmvgezVS vw vd rt s
  | .cmvlezVS vw vd rt => Sys2Proof.Machine.execCmvlezVS vw vd rt s
  | .cmveqzVS vw vd rt => Sys2Proof.Machine.execCmveqzVS vw vd rt s
  | .cmvltzVS vw vd rt => Sys2Proof.Machine.execCmvltzVS vw vd rt s
  | .cmvgtzVS vw vd rt => Sys2Proof.Machine.execCmvgtzVS vw vd rt s
  | .fxaddVV vw vd vt rd => Sys2Proof.Machine.execFxaddVV vw vd vt rd s
  | .fxaddVS vw vd rt rd => Sys2Proof.Machine.execFxaddVS vw vd rt rd s
  | .fxaddSV vw rt vd rd => Sys2Proof.Machine.execFxaddSV vw rt vd rd s
  | .fxsubVV vw vd vt rd => Sys2Proof.Machine.execFxsubVV vw vd vt rd s
  | .fxsubVS vw vd rt rd => Sys2Proof.Machine.execFxsubVS vw vd rt rd s
  | .fxsubSV vw rt vd rd => Sys2Proof.Machine.execFxsubSV vw rt vd rd s
  | .fxmulVV vw vd vt rd => Sys2Proof.Machine.execFxmulVV vw vd vt rd s
  | .fxmulVS vw vd rt rd => Sys2Proof.Machine.execFxmulVS vw vd rt rd s
  | .fxmulSV vw rt vd rd => Sys2Proof.Machine.execFxmulSV vw rt vd rd s
  | .add rd rs rt => Sys2Proof.Machine.execAdd rd rs rt s
  | .addu rd rs rt => Sys2Proof.Machine.execAddu rd rs rt s
  | .sub rd rs rt => Sys2Proof.Machine.execSub rd rs rt s
  | .subu rd rs rt => Sys2Proof.Machine.execSubu rd rs rt s
  | .and rd rs rt => Sys2Proof.Machine.execAnd rd rs rt s
  | .or rd rs rt => Sys2Proof.Machine.execOr rd rs rt s
  | .xor rd rs rt => Sys2Proof.Machine.execXor rd rs rt s
  | .nor rd rs rt => Sys2Proof.Machine.execNor rd rs rt s
  | .slt rd rs rt => Sys2Proof.Machine.execSlt rd rs rt s
  | .sltu rd rs rt => Sys2Proof.Machine.execSltu rd rs rt s
  | .addi rt rs imm => Sys2Proof.Machine.execAddi rt rs imm s
  | .addiu rt rs imm => Sys2Proof.Machine.execAddiu rt rs imm s
  | .slti rt rs imm => Sys2Proof.Machine.execSlti rt rs imm s
  | .sltiu rt rs imm => Sys2Proof.Machine.execSltiu rt rs imm s
  | .andi rt rs imm => Sys2Proof.Machine.execAndi rt rs imm s
  | .ori rt rs imm => Sys2Proof.Machine.execOri rt rs imm s
  | .xori rt rs imm => Sys2Proof.Machine.execXori rt rs imm s
  | .lui rt imm => Sys2Proof.Machine.execLui rt imm s
  | .sll rd rt sa => Sys2Proof.Machine.execSll rd rt sa s
  | .srl rd rt sa => Sys2Proof.Machine.execSrl rd rt sa s
  | .sra rd rt sa => Sys2Proof.Machine.execSra rd rt sa s
  | .sllv rd rt rs => Sys2Proof.Machine.execSllv rd rt rs s
  | .srlv rd rt rs => Sys2Proof.Machine.execSrlv rd rt rs s
  | .srav rd rt rs => Sys2Proof.Machine.execSrav rd rt rs s
  | .mult rs rt => Sys2Proof.Machine.execMult rs rt s
  | .multu rs rt => Sys2Proof.Machine.execMultu rs rt s
  | .div rs rt => Sys2Proof.Machine.execDiv rs rt s
  | .divu rs rt => Sys2Proof.Machine.execDivu rs rt s
  | .mfhi rd => Sys2Proof.Machine.execMfhi rd s
  | .mthi rs => Sys2Proof.Machine.execMthi rs s
  | .mflo rd => Sys2Proof.Machine.execMflo rd s
  | .mtlo rs => Sys2Proof.Machine.execMtlo rs s
  | .lb rt imm rs => Sys2Proof.Machine.execLb rt imm rs s
  | .lbu rt imm rs => Sys2Proof.Machine.execLbu rt imm rs s
  | .lh rt imm rs => Sys2Proof.Machine.execLh rt imm rs s
  | .lhu rt imm rs => Sys2Proof.Machine.execLhu rt imm rs s
  | .lw rt imm rs => Sys2Proof.Machine.execLw rt imm rs s
  | .lwl rt imm rs => Sys2Proof.Machine.execLwl rt imm rs s
  | .lwr rt imm rs => Sys2Proof.Machine.execLwr rt imm rs s
  | .sb rt imm rs => Sys2Proof.Machine.execSb rt imm rs s
  | .sh rt imm rs => Sys2Proof.Machine.execSh rt imm rs s
  | .sw rt imm rs => Sys2Proof.Machine.execSw rt imm rs s
  | .swl rt imm rs => Sys2Proof.Machine.execSwl rt imm rs s
  | .swr rt imm rs => Sys2Proof.Machine.execSwr rt imm rs s
  | .ll rt imm rs => Sys2Proof.Machine.execLl rt imm rs s
  | .sc rt imm rs => Sys2Proof.Machine.execSc rt imm rs s
  | .sync => Sys2Proof.Machine.execSync s
  | .beq rs rt imm => Sys2Proof.Machine.execBeq rs rt imm s
  | .bne rs rt imm => Sys2Proof.Machine.execBne rs rt imm s
  | .blez rs imm => Sys2Proof.Machine.execBlez rs imm s
  | .bgtz rs imm => Sys2Proof.Machine.execBgtz rs imm s
  | .bltz rs imm => Sys2Proof.Machine.execBltz rs imm s
  | .bgez rs imm => Sys2Proof.Machine.execBgez rs imm s
  | .bltzal rs imm => Sys2Proof.Machine.execBltzal rs imm s
  | .bgezal rs imm => Sys2Proof.Machine.execBgezal rs imm s
  | .beql rs rt imm => Sys2Proof.Machine.execBeql rs rt imm s
  | .bnel rs rt imm => Sys2Proof.Machine.execBnel rs rt imm s
  | .blezl rs imm => Sys2Proof.Machine.execBlezl rs imm s
  | .bgtzl rs imm => Sys2Proof.Machine.execBgtzl rs imm s
  | .bltzl rs imm => Sys2Proof.Machine.execBltzl rs imm s
  | .bgezl rs imm => Sys2Proof.Machine.execBgezl rs imm s
  | .bltzall rs imm => Sys2Proof.Machine.execBltzall rs imm s
  | .bgezall rs imm => Sys2Proof.Machine.execBgezall rs imm s
  | .j target => Sys2Proof.Machine.execJ target s
  | .jal target => Sys2Proof.Machine.execJal target s
  | .jr rs => Sys2Proof.Machine.execJr rs s
  | .jalr rd rs => Sys2Proof.Machine.execJalr rd rs s
  | .tge rs rt code => Sys2Proof.Machine.execTge rs rt code s
  | .tgeu rs rt code => Sys2Proof.Machine.execTgeu rs rt code s
  | .tlt rs rt code => Sys2Proof.Machine.execTlt rs rt code s
  | .tltu rs rt code => Sys2Proof.Machine.execTltu rs rt code s
  | .teq rs rt code => Sys2Proof.Machine.execTeq rs rt code s
  | .tne rs rt code => Sys2Proof.Machine.execTne rs rt code s
  | .tgei rs imm => Sys2Proof.Machine.execTgei rs imm s
  | .tgeiu rs imm => Sys2Proof.Machine.execTgeiu rs imm s
  | .tlti rs imm => Sys2Proof.Machine.execTlti rs imm s
  | .tltiu rs imm => Sys2Proof.Machine.execTltiu rs imm s
  | .teqi rs imm => Sys2Proof.Machine.execTeqi rs imm s
  | .tnei rs imm => Sys2Proof.Machine.execTnei rs imm s
  | .syscall code => Sys2Proof.Machine.execSyscall code s
  | .brk code => Sys2Proof.Machine.execBrk code s

end Sys2Proof.Machine
end

