-- ==== Sys2Proof/Machine/Fetch.lean ====
section
/-! DEFINITION. Fetching the instruction at `pc` and running it: the first lines of the step of 48 R410, the
end of a run (70 R494), and what the words that are no instruction do (30 R103 to R108, 47 R334, 48 R446 to
R449). -/

namespace Sys2Proof.Machine

/-- The four bytes at `pc`, in address order. -/
def State.fetchBytes (s : State) : List Byte :=
  (byteAddrs s.pc 4).map s.mem.read

/-- The word at `pc` (R410). -/
def State.fetchedWord (s : State) : Word :=
  s.memRead s.pc 4

/-- Whether the four bytes at `pc` are program text that may be fetched (R77, R79, R494 b). -/
def State.fetchable (s : State) : Bool :=
  (byteAddrs s.pc 4).all fun a => s.inText a && s.executable a

/-- A word that is an instruction runs; any other word does what its class says: a reserved coprocessor-2
word raises Coprocessor unusable or else Reserved instruction (R103 to R108), a coprocessor-1 or -3 word
Coprocessor unusable (R447, R448), an unassigned scalar word Reserved instruction (R449); a coprocessor-0 word
(R446), a coprocessor-1 word with hardware floating point (R447) and a word with a must-be-zero field that is
not zero (R334) are refused. -/
def runDecoded (d : Decoded) (w : Word) (s : State) : Result :=
  match d with
  | .instr i => exec i s
  | .cop2Reserved => if s.cu2 then s.raise .reservedInstruction (.word w) else s.raiseCpU 2
  | .cop0 => .refused .coprocessor0
  | .cop1 => if s.cfg.hasFpu then .refused .floatingPointUnspecified else s.raiseCpU 1
  | .cop3 => s.raiseCpU 3
  | .reserved => s.raise .reservedInstruction (.word w)
  | .mustBeZero => .refused .mustBeZeroField

/-- One step (R410): nothing runs after a trap (R470); a misaligned `pc` raises Address error; outside the
program text the run is stuck (R494); else the word at `pc` runs. -/
def fetchAndRun (s : State) : Result :=
  if s.trap.isSome then .fault .runEnded
  else if !aligned .word s.pc then s.raise .addressErrorLoad (.address s.pc)
  else if !s.fetchable then .fault .outsideText
  else runDecoded (decodeBytes s.cfg.endian s.fetchBytes) s.fetchedWord s

/-- A program of one word placed at `pc` from outside: its four bytes in memory, and program text there
(R491, log 8). -/
def State.loadWordAtPc (s : State) (w : Word) : State :=
  { s with mem := s.mem.writeAll (storeCells s.cfg.endian s.pc 4 w), text := ⟨s.pc.toNat, 4⟩ :: s.text }

end Sys2Proof.Machine
end

