-- ==== Sys2Proof/Machine/Step.lean ====
section
/-! DEFINITION. The step of the machine, and the placing of one instruction word where it is fetched next. -/

namespace Sys2Proof.Machine

/-- One step of the machine (48 R410). -/
def step (s : State) : Host.Outcome State Fault Refusal :=
  fetchAndRun s

/-- The state with one instruction word stored where `step` fetches next. A program is loaded from outside
the machine (70 R491, log 8); this stands for that load. -/
def State.withFetchWord (s : State) (nbits w : Nat) : State :=
  s.loadWordAtPc (BitVec.ofNat 32 (w % 2 ^ nbits))

end Sys2Proof.Machine
end

