-- ==== Sys2Proof/Safety.lean ====
section
/-! DEFINITION. What counts as a safe run, in the terms the claims use: the invariant of the machine, what each
instruction may change (its footprint), when an instruction may run, how it completes and how it traps. -/

namespace Sys2Proof.Machine

/-! ## Footprints -/

/-- What an instruction may change beside the program counter. A field that is `false` or a name that is not
listed stays as it is. -/
structure Footprint where
  /-- The scalar registers it writes. -/
  regs : List Reg := []
  /-- The vector registers it writes. -/
  vregs : List VReg := []
  hiLo : Bool := false
  linkBit : Bool := false
  linkAddr : Bool := false
  vcount : Bool := false
  vlr : Bool := false
  vcond : Bool := false
  vovf : Bool := false
  vsat : Bool := false
  /-- The `unsynced` list. -/
  order : Bool := false
  /-- The addresses of the bytes it stores to. -/
  bytes : List Nat := []

/-- Everything outside a footprint is the same in two states: every register, flag, special register and byte
of memory, the run parameters, the coprocessor enables, the launch memory and the program text. -/
structure Unchanged (f : Footprint) (s t : State) : Prop where
  cfg : t.cfg = s.cfg
  map : t.map = s.map
  text : t.text = s.text
  cu1 : t.cu1 = s.cu1
  cu2 : t.cu2 = s.cu2
  regs : ∀ r, r ∉ f.regs → t.x r = s.x r
  vregs : ∀ j, j ∉ f.vregs → ∀ k, t.v j k = s.v j k
  hi : f.hiLo = false → t.hi = s.hi
  lo : f.hiLo = false → t.lo = s.lo
  llBit : f.linkBit = false → t.llBit = s.llBit
  llAddr : f.linkAddr = false → t.llAddr = s.llAddr
  vcount : f.vcount = false → t.vcount = s.vcount
  vlr : f.vlr = false → t.vlr = s.vlr
  vcond : f.vcond = false → t.vcond = s.vcond
  vovf : f.vovf = false → t.vovf = s.vovf
  vsat : f.vsat = false → t.vsat = s.vsat
  unsynced : f.order = false → t.unsynced = s.unsynced
  mem : ∀ a, a ∉ f.bytes → t.mem.read a = s.mem.read a

/-- A vector load or store: its kind, its vector register, its addressing mode and the size of its elements
(R67, R141). -/
structure VectorAccess where
  kind : AccessKind
  vd : VReg
  mode : VecMode
  size : Size
deriving DecidableEq, Repr

/-- What a Vector address exception of a vector access leaves open (R82): nothing for a unit-stride form, whose
test is on the base; the destination of a load; of a store, the bytes at the aligned addresses of its elements
below `vlr` that a store may write at all (R77, R79). -/
def VectorAccess.leavesOpen (m : VectorAccess) (s : State) : Footprint :=
  match m.mode, m.kind with
  | .unit _ _, _ => { }
  | .strided _ _, .read | .indexed _ _, .read => { vregs := [m.vd] }
  | .strided _ _, .write | .indexed _ _, .write =>
    let address := fun k => s.elementAddr m.mode m.size k
    let atAligned := ((List.range s.vlr.toNat).filter fun k => aligned m.size (address k)).flatMap fun k =>
      byteAddrs (address k) m.size.bytes
    { bytes := atAligned.filter fun a => s.mapped .write a && !s.inText a }

end Sys2Proof.Machine

namespace Sys2Proof

open Machine

/-- The footprint of an instruction in a state. The addresses stored to are computed by the functions that the
meanings use. -/
def Instr.footprint (i : Instr) (s : State) : Footprint :=
  match i with
  | .cfvu rt cs => { regs := [rt], vcount := cs == 1 }
  | .ctvu _ cs => { vlr := cs == 2, vcond := cs == 4, vovf := cs == 8, vsat := cs == 12 }
  | .vextV vd _ _ | .vinsS _ vd _ => { vregs := [vd] }
  | .vextS rt _ _ | .addi rt _ _ | .addiu rt _ _ | .slti rt _ _ | .sltiu rt _ _ | .andi rt _ _
  | .ori rt _ _ | .xori rt _ _ | .lui rt _ => { regs := [rt] }
  | .lbaiV vd rd _ | .lhaiV vd rd _ | .lwaiV vd rd _ | .lbuaiV vd rd _ | .lhuaiV vd rd _ =>
      { regs := [rd], vregs := [vd], order := true }
  | .lbxV vd _ _ | .lhxV vd _ _ | .lwxV vd _ _ | .lbuxV vd _ _ | .lhuxV vd _ _ | .lbstV vd _ _
  | .lhstV vd _ _ | .lwstV vd _ _ | .lbustV vd _ _ | .lhustV vd _ _ => { vregs := [vd], order := true }
  | .sbaiV _ rd rt =>
      { regs := [rd], linkBit := true, order := true,
        bytes := s.elementBytes (.unit rd rt) .byte s.vlr.toNat }
  | .shaiV _ rd rt =>
      { regs := [rd], linkBit := true, order := true,
        bytes := s.elementBytes (.unit rd rt) .half s.vlr.toNat }
  | .swaiV _ rd rt =>
      { regs := [rd], linkBit := true, order := true,
        bytes := s.elementBytes (.unit rd rt) .word s.vlr.toNat }
  | .sbxV _ rd vt =>
      { linkBit := true, order := true,
        bytes := s.elementBytes (.indexed rd vt) .byte s.vlr.toNat }
  | .shxV _ rd vt =>
      { linkBit := true, order := true,
        bytes := s.elementBytes (.indexed rd vt) .half s.vlr.toNat }
  | .swxV _ rd vt =>
      { linkBit := true, order := true,
        bytes := s.elementBytes (.indexed rd vt) .word s.vlr.toNat }
  | .sbstV _ rd rt =>
      { linkBit := true, order := true,
        bytes := s.elementBytes (.strided rd rt) .byte s.vlr.toNat }
  | .shstV _ rd rt =>
      { linkBit := true, order := true,
        bytes := s.elementBytes (.strided rd rt) .half s.vlr.toNat }
  | .swstV _ rd rt =>
      { linkBit := true, order := true,
        bytes := s.elementBytes (.strided rd rt) .word s.vlr.toNat }
  | .andVV vw _ _ | .andVS vw _ _ | .orVV vw _ _ | .orVS vw _ _ | .xorVV vw _ _ | .xorVS vw _ _
  | .norVV vw _ _ | .norVS vw _ _ | .adduVV vw _ _ | .adduVS vw _ _ | .subuVV vw _ _ | .subuVS vw _ _
  | .subuSV vw _ _ | .sllvVV vw _ _ | .sllvVS vw _ _ | .sllvSV vw _ _ | .sravVV vw _ _ | .sravVS vw _ _
  | .sravSV vw _ _ | .srlvVV vw _ _ | .srlvVS vw _ _ | .srlvSV vw _ _ | .sltVV vw _ _ | .sltVS vw _ _
  | .sltSV vw _ _ | .sltuVV vw _ _ | .sltuVS vw _ _ | .sltuSV vw _ _ | .seqVV vw _ _ | .seqVS vw _ _
  | .cmvnezVV vw _ _ | .cmvgezVV vw _ _ | .cmvlezVV vw _ _ | .cmveqzVV vw _ _ | .cmvltzVV vw _ _
  | .cmvgtzVV vw _ _ | .cmvnezVS vw _ _ | .cmvgezVS vw _ _ | .cmvlezVS vw _ _ | .cmveqzVS vw _ _
  | .cmvltzVS vw _ _ | .cmvgtzVS vw _ _ => { vregs := [vw] }
  | .addVV vw _ _ | .addVS vw _ _ | .subVV vw _ _ | .subVS vw _ _ | .subSV vw _ _ =>
      { vregs := [vw], vovf := true }
  | .fltVV _ _ | .fltVS _ _ | .fltSV _ _ | .fltuVV _ _ | .fltuVS _ _ | .fltuSV _ _ | .feqVV _ _
  | .feqVS _ _ => { vcond := true }
  | .fxaddVV vw _ _ _ | .fxaddVS vw _ _ _ | .fxaddSV vw _ _ _ | .fxsubVV vw _ _ _ | .fxsubVS vw _ _ _
  | .fxsubSV vw _ _ _ | .fxmulVV vw _ _ _ | .fxmulVS vw _ _ _ | .fxmulSV vw _ _ _ =>
      { vregs := [vw], vsat := true }
  | .add rd _ _ | .addu rd _ _ | .sub rd _ _ | .subu rd _ _ | .and rd _ _ | .or rd _ _ | .xor rd _ _
  | .nor rd _ _ | .slt rd _ _ | .sltu rd _ _ | .sll rd _ _ | .srl rd _ _ | .sra rd _ _ | .sllv rd _ _
  | .srlv rd _ _ | .srav rd _ _ | .mfhi rd | .mflo rd | .jalr rd _ => { regs := [rd] }
  | .mult _ _ | .multu _ _ | .div _ _ | .divu _ _ | .mthi _ | .mtlo _ => { hiLo := true }
  | .lb rt _ _ | .lbu rt _ _ | .lh rt _ _ | .lhu rt _ _ | .lw rt _ _ | .lwl rt _ _ | .lwr rt _ _ =>
      { regs := [rt], order := true }
  | .sb _ imm rs => { order := true, bytes := byteAddrs (s.scalarAddr rs imm) 1 }
  | .sh _ imm rs => { order := true, bytes := byteAddrs (s.scalarAddr rs imm) 2 }
  | .sw _ imm rs => { order := true, bytes := byteAddrs (s.scalarAddr rs imm) 4 }
  | .swl _ imm rs =>
      { order := true, bytes := (leftLanes s.cfg.endian (s.scalarAddr rs imm)).map fun l => l.1 }
  | .swr _ imm rs =>
      { order := true, bytes := (rightLanes s.cfg.endian (s.scalarAddr rs imm)).map fun l => l.1 }
  | .ll rt _ _ => { regs := [rt], linkBit := true, linkAddr := true, order := true }
  | .sc rt imm rs =>
      { regs := [rt], linkBit := true, order := true, bytes := byteAddrs (s.scalarAddr rs imm) 4 }
  | .sync => { order := true }
  | .beq _ _ _ | .bne _ _ _ | .blez _ _ | .bgtz _ _ | .bltz _ _ | .bgez _ _ | .beql _ _ _ | .bnel _ _ _
  | .blezl _ _ | .bgtzl _ _ | .bltzl _ _ | .bgezl _ _ | .j _ | .jr _ | .tge _ _ _ | .tgeu _ _ _
  | .tlt _ _ _ | .tltu _ _ _ | .teq _ _ _ | .tne _ _ _ | .tgei _ _ | .tgeiu _ _ | .tlti _ _
  | .tltiu _ _ | .teqi _ _ | .tnei _ _ | .syscall _ | .brk _ => { }
  | .bltzal _ _ | .bgezal _ _ | .bltzall _ _ | .bgezall _ _ | .jal _ => { regs := [31] }

/-! ## Classes of instructions -/

/-- The instructions of the vector unit, 40 to 45: coprocessor 2 (R91). -/
def Instr.isVu : Instr → Bool
  | .cfvu _ _ | .ctvu _ _ | .vextV _ _ _ | .vinsS _ _ _ | .vextS _ _ _ | .lbaiV _ _ _ | .lhaiV _ _ _
  | .lwaiV _ _ _ | .lbuaiV _ _ _ | .lhuaiV _ _ _ | .lbxV _ _ _ | .lhxV _ _ _ | .lwxV _ _ _
  | .lbuxV _ _ _ | .lhuxV _ _ _ | .lbstV _ _ _ | .lhstV _ _ _ | .lwstV _ _ _ | .lbustV _ _ _
  | .lhustV _ _ _ | .sbaiV _ _ _ | .shaiV _ _ _ | .swaiV _ _ _ | .sbxV _ _ _ | .shxV _ _ _
  | .swxV _ _ _ | .sbstV _ _ _ | .shstV _ _ _ | .swstV _ _ _ | .andVV _ _ _ | .andVS _ _ _
  | .orVV _ _ _ | .orVS _ _ _ | .xorVV _ _ _ | .xorVS _ _ _ | .norVV _ _ _ | .norVS _ _ _
  | .addVV _ _ _ | .addVS _ _ _ | .adduVV _ _ _ | .adduVS _ _ _ | .subVV _ _ _ | .subVS _ _ _
  | .subSV _ _ _ | .subuVV _ _ _ | .subuVS _ _ _ | .subuSV _ _ _ | .sllvVV _ _ _ | .sllvVS _ _ _
  | .sllvSV _ _ _ | .sravVV _ _ _ | .sravVS _ _ _ | .sravSV _ _ _ | .srlvVV _ _ _ | .srlvVS _ _ _
  | .srlvSV _ _ _ | .sltVV _ _ _ | .sltVS _ _ _ | .sltSV _ _ _ | .sltuVV _ _ _ | .sltuVS _ _ _
  | .sltuSV _ _ _ | .seqVV _ _ _ | .seqVS _ _ _ | .fltVV _ _ | .fltVS _ _ | .fltSV _ _ | .fltuVV _ _
  | .fltuVS _ _ | .fltuSV _ _ | .feqVV _ _ | .feqVS _ _ | .cmvnezVV _ _ _ | .cmvgezVV _ _ _
  | .cmvlezVV _ _ _ | .cmveqzVV _ _ _ | .cmvltzVV _ _ _ | .cmvgtzVV _ _ _ | .cmvnezVS _ _ _
  | .cmvgezVS _ _ _ | .cmvlezVS _ _ _ | .cmveqzVS _ _ _ | .cmvltzVS _ _ _ | .cmvgtzVS _ _ _
  | .fxaddVV _ _ _ _ | .fxaddVS _ _ _ _ | .fxaddSV _ _ _ _ | .fxsubVV _ _ _ _ | .fxsubVS _ _ _ _
  | .fxsubSV _ _ _ _ | .fxmulVV _ _ _ _ | .fxmulVS _ _ _ _ | .fxmulSV _ _ _ _ => true
  | .add _ _ _ | .addu _ _ _ | .sub _ _ _ | .subu _ _ _ | .and _ _ _ | .or _ _ _ | .xor _ _ _
  | .nor _ _ _ | .slt _ _ _ | .sltu _ _ _ | .addi _ _ _ | .addiu _ _ _ | .slti _ _ _ | .sltiu _ _ _
  | .andi _ _ _ | .ori _ _ _ | .xori _ _ _ | .lui _ _ | .sll _ _ _ | .srl _ _ _ | .sra _ _ _
  | .sllv _ _ _ | .srlv _ _ _ | .srav _ _ _ | .mult _ _ | .multu _ _ | .div _ _ | .divu _ _ | .mfhi _
  | .mthi _ | .mflo _ | .mtlo _ | .lb _ _ _ | .lbu _ _ _ | .lh _ _ _ | .lhu _ _ _ | .lw _ _ _
  | .lwl _ _ _ | .lwr _ _ _ | .sb _ _ _ | .sh _ _ _ | .sw _ _ _ | .swl _ _ _ | .swr _ _ _ | .ll _ _ _
  | .sc _ _ _ | .sync | .beq _ _ _ | .bne _ _ _ | .blez _ _ | .bgtz _ _ | .bltz _ _ | .bgez _ _
  | .bltzal _ _ | .bgezal _ _ | .beql _ _ _ | .bnel _ _ _ | .blezl _ _ | .bgtzl _ _ | .bltzl _ _
  | .bgezl _ _ | .bltzall _ _ | .bgezall _ _ | .j _ | .jal _ | .jr _ | .jalr _ _ | .tge _ _ _
  | .tgeu _ _ _ | .tlt _ _ _ | .tltu _ _ _ | .teq _ _ _ | .tne _ _ _ | .tgei _ _ | .tgeiu _ _
  | .tlti _ _ | .tltiu _ _ | .teqi _ _ | .tnei _ _ | .syscall _ | .brk _ => false

/-- The vector registers an instruction names (R29). -/
def Instr.vectorRegisters : Instr → List VReg
  | .cfvu _ _ | .ctvu _ _ | .add _ _ _ | .addu _ _ _ | .sub _ _ _ | .subu _ _ _ | .and _ _ _
  | .or _ _ _ | .xor _ _ _ | .nor _ _ _ | .slt _ _ _ | .sltu _ _ _ | .addi _ _ _ | .addiu _ _ _
  | .slti _ _ _ | .sltiu _ _ _ | .andi _ _ _ | .ori _ _ _ | .xori _ _ _ | .lui _ _ | .sll _ _ _
  | .srl _ _ _ | .sra _ _ _ | .sllv _ _ _ | .srlv _ _ _ | .srav _ _ _ | .mult _ _ | .multu _ _
  | .div _ _ | .divu _ _ | .mfhi _ | .mthi _ | .mflo _ | .mtlo _ | .lb _ _ _ | .lbu _ _ _ | .lh _ _ _
  | .lhu _ _ _ | .lw _ _ _ | .lwl _ _ _ | .lwr _ _ _ | .sb _ _ _ | .sh _ _ _ | .sw _ _ _ | .swl _ _ _
  | .swr _ _ _ | .ll _ _ _ | .sc _ _ _ | .sync | .beq _ _ _ | .bne _ _ _ | .blez _ _ | .bgtz _ _
  | .bltz _ _ | .bgez _ _ | .bltzal _ _ | .bgezal _ _ | .beql _ _ _ | .bnel _ _ _ | .blezl _ _
  | .bgtzl _ _ | .bltzl _ _ | .bgezl _ _ | .bltzall _ _ | .bgezall _ _ | .j _ | .jal _ | .jr _
  | .jalr _ _ | .tge _ _ _ | .tgeu _ _ _ | .tlt _ _ _ | .tltu _ _ _ | .teq _ _ _ | .tne _ _ _
  | .tgei _ _ | .tgeiu _ _ | .tlti _ _ | .tltiu _ _ | .teqi _ _ | .tnei _ _ | .syscall _ | .brk _ => []
  | .vextV vd vt _ | .lbxV vd _ vt | .lhxV vd _ vt | .lwxV vd _ vt | .lbuxV vd _ vt | .lhuxV vd _ vt
  | .sbxV vd _ vt | .shxV vd _ vt | .swxV vd _ vt | .fltVV vd vt | .fltuVV vd vt | .feqVV vd vt =>
      [vd, vt]
  | .vinsS _ vd _ | .vextS _ vd _ | .lbaiV vd _ _ | .lhaiV vd _ _ | .lwaiV vd _ _ | .lbuaiV vd _ _
  | .lhuaiV vd _ _ | .lbstV vd _ _ | .lhstV vd _ _ | .lwstV vd _ _ | .lbustV vd _ _ | .lhustV vd _ _
  | .sbaiV vd _ _ | .shaiV vd _ _ | .swaiV vd _ _ | .sbstV vd _ _ | .shstV vd _ _ | .swstV vd _ _
  | .fltVS vd _ | .fltSV _ vd | .fltuVS vd _ | .fltuSV _ vd | .feqVS vd _ => [vd]
  | .andVV vw vd vt | .orVV vw vd vt | .xorVV vw vd vt | .norVV vw vd vt | .addVV vw vd vt
  | .adduVV vw vd vt | .subVV vw vd vt | .subuVV vw vd vt | .sllvVV vw vd vt | .sravVV vw vd vt
  | .srlvVV vw vd vt | .sltVV vw vd vt | .sltuVV vw vd vt | .seqVV vw vd vt | .cmvnezVV vw vd vt
  | .cmvgezVV vw vd vt | .cmvlezVV vw vd vt | .cmveqzVV vw vd vt | .cmvltzVV vw vd vt
  | .cmvgtzVV vw vd vt | .fxaddVV vw vd vt _ | .fxsubVV vw vd vt _ | .fxmulVV vw vd vt _ => [vw, vd, vt]
  | .andVS vw vd _ | .orVS vw vd _ | .xorVS vw vd _ | .norVS vw vd _ | .addVS vw vd _ | .adduVS vw vd _
  | .subVS vw vd _ | .subSV vw _ vd | .subuVS vw vd _ | .subuSV vw _ vd | .sllvVS vw vd _
  | .sllvSV vw _ vd | .sravVS vw vd _ | .sravSV vw _ vd | .srlvVS vw vd _ | .srlvSV vw _ vd
  | .sltVS vw vd _ | .sltSV vw _ vd | .sltuVS vw vd _ | .sltuSV vw _ vd | .seqVS vw vd _
  | .cmvnezVS vw vd _ | .cmvgezVS vw vd _ | .cmvlezVS vw vd _ | .cmveqzVS vw vd _ | .cmvltzVS vw vd _
  | .cmvgtzVS vw vd _ | .fxaddVS vw vd _ _ | .fxaddSV vw _ vd _ | .fxsubVS vw vd _ _
  | .fxsubSV vw _ vd _ | .fxmulVS vw vd _ _ | .fxmulSV vw _ vd _ => [vw, vd]

/-- The instructions that run over `vlr` elements, and so begin with the whole of `VectorPrologue` (R100): all
of the vector unit but `cfvu`, `ctvu`, `vins.s`, `vext.s` (R35). -/
def Instr.runsOverVlr : Instr → Bool
  | .cfvu _ _ | .ctvu _ _ | .vinsS _ _ _ | .vextS _ _ _ | .add _ _ _ | .addu _ _ _ | .sub _ _ _
  | .subu _ _ _ | .and _ _ _ | .or _ _ _ | .xor _ _ _ | .nor _ _ _ | .slt _ _ _ | .sltu _ _ _
  | .addi _ _ _ | .addiu _ _ _ | .slti _ _ _ | .sltiu _ _ _ | .andi _ _ _ | .ori _ _ _ | .xori _ _ _
  | .lui _ _ | .sll _ _ _ | .srl _ _ _ | .sra _ _ _ | .sllv _ _ _ | .srlv _ _ _ | .srav _ _ _
  | .mult _ _ | .multu _ _ | .div _ _ | .divu _ _ | .mfhi _ | .mthi _ | .mflo _ | .mtlo _ | .lb _ _ _
  | .lbu _ _ _ | .lh _ _ _ | .lhu _ _ _ | .lw _ _ _ | .lwl _ _ _ | .lwr _ _ _ | .sb _ _ _ | .sh _ _ _
  | .sw _ _ _ | .swl _ _ _ | .swr _ _ _ | .ll _ _ _ | .sc _ _ _ | .sync | .beq _ _ _ | .bne _ _ _
  | .blez _ _ | .bgtz _ _ | .bltz _ _ | .bgez _ _ | .bltzal _ _ | .bgezal _ _ | .beql _ _ _
  | .bnel _ _ _ | .blezl _ _ | .bgtzl _ _ | .bltzl _ _ | .bgezl _ _ | .bltzall _ _ | .bgezall _ _
  | .j _ | .jal _ | .jr _ | .jalr _ _ | .tge _ _ _ | .tgeu _ _ _ | .tlt _ _ _ | .tltu _ _ _
  | .teq _ _ _ | .tne _ _ _ | .tgei _ _ | .tgeiu _ _ | .tlti _ _ | .tltiu _ _ | .teqi _ _ | .tnei _ _
  | .syscall _ | .brk _ => false
  | .vextV _ _ _ | .lbaiV _ _ _ | .lhaiV _ _ _ | .lwaiV _ _ _ | .lbuaiV _ _ _ | .lhuaiV _ _ _
  | .lbxV _ _ _ | .lhxV _ _ _ | .lwxV _ _ _ | .lbuxV _ _ _ | .lhuxV _ _ _ | .lbstV _ _ _ | .lhstV _ _ _
  | .lwstV _ _ _ | .lbustV _ _ _ | .lhustV _ _ _ | .sbaiV _ _ _ | .shaiV _ _ _ | .swaiV _ _ _
  | .sbxV _ _ _ | .shxV _ _ _ | .swxV _ _ _ | .sbstV _ _ _ | .shstV _ _ _ | .swstV _ _ _ | .andVV _ _ _
  | .andVS _ _ _ | .orVV _ _ _ | .orVS _ _ _ | .xorVV _ _ _ | .xorVS _ _ _ | .norVV _ _ _
  | .norVS _ _ _ | .addVV _ _ _ | .addVS _ _ _ | .adduVV _ _ _ | .adduVS _ _ _ | .subVV _ _ _
  | .subVS _ _ _ | .subSV _ _ _ | .subuVV _ _ _ | .subuVS _ _ _ | .subuSV _ _ _ | .sllvVV _ _ _
  | .sllvVS _ _ _ | .sllvSV _ _ _ | .sravVV _ _ _ | .sravVS _ _ _ | .sravSV _ _ _ | .srlvVV _ _ _
  | .srlvVS _ _ _ | .srlvSV _ _ _ | .sltVV _ _ _ | .sltVS _ _ _ | .sltSV _ _ _ | .sltuVV _ _ _
  | .sltuVS _ _ _ | .sltuSV _ _ _ | .seqVV _ _ _ | .seqVS _ _ _ | .fltVV _ _ | .fltVS _ _ | .fltSV _ _
  | .fltuVV _ _ | .fltuVS _ _ | .fltuSV _ _ | .feqVV _ _ | .feqVS _ _ | .cmvnezVV _ _ _
  | .cmvgezVV _ _ _ | .cmvlezVV _ _ _ | .cmveqzVV _ _ _ | .cmvltzVV _ _ _ | .cmvgtzVV _ _ _
  | .cmvnezVS _ _ _ | .cmvgezVS _ _ _ | .cmvlezVS _ _ _ | .cmveqzVS _ _ _ | .cmvltzVS _ _ _
  | .cmvgtzVS _ _ _ | .fxaddVV _ _ _ _ | .fxaddVS _ _ _ _ | .fxaddSV _ _ _ _ | .fxsubVV _ _ _ _
  | .fxsubVS _ _ _ _ | .fxsubSV _ _ _ _ | .fxmulVV _ _ _ _ | .fxmulVS _ _ _ _ | .fxmulSV _ _ _ _ => true

/-- The loads and stores of 42 and 48, with `ll` and `sc`. -/
def Instr.isMemory : Instr → Bool
  | .cfvu _ _ | .ctvu _ _ | .vextV _ _ _ | .vinsS _ _ _ | .vextS _ _ _ | .andVV _ _ _ | .andVS _ _ _
  | .orVV _ _ _ | .orVS _ _ _ | .xorVV _ _ _ | .xorVS _ _ _ | .norVV _ _ _ | .norVS _ _ _
  | .addVV _ _ _ | .addVS _ _ _ | .adduVV _ _ _ | .adduVS _ _ _ | .subVV _ _ _ | .subVS _ _ _
  | .subSV _ _ _ | .subuVV _ _ _ | .subuVS _ _ _ | .subuSV _ _ _ | .sllvVV _ _ _ | .sllvVS _ _ _
  | .sllvSV _ _ _ | .sravVV _ _ _ | .sravVS _ _ _ | .sravSV _ _ _ | .srlvVV _ _ _ | .srlvVS _ _ _
  | .srlvSV _ _ _ | .sltVV _ _ _ | .sltVS _ _ _ | .sltSV _ _ _ | .sltuVV _ _ _ | .sltuVS _ _ _
  | .sltuSV _ _ _ | .seqVV _ _ _ | .seqVS _ _ _ | .fltVV _ _ | .fltVS _ _ | .fltSV _ _ | .fltuVV _ _
  | .fltuVS _ _ | .fltuSV _ _ | .feqVV _ _ | .feqVS _ _ | .cmvnezVV _ _ _ | .cmvgezVV _ _ _
  | .cmvlezVV _ _ _ | .cmveqzVV _ _ _ | .cmvltzVV _ _ _ | .cmvgtzVV _ _ _ | .cmvnezVS _ _ _
  | .cmvgezVS _ _ _ | .cmvlezVS _ _ _ | .cmveqzVS _ _ _ | .cmvltzVS _ _ _ | .cmvgtzVS _ _ _
  | .fxaddVV _ _ _ _ | .fxaddVS _ _ _ _ | .fxaddSV _ _ _ _ | .fxsubVV _ _ _ _ | .fxsubVS _ _ _ _
  | .fxsubSV _ _ _ _ | .fxmulVV _ _ _ _ | .fxmulVS _ _ _ _ | .fxmulSV _ _ _ _ | .add _ _ _
  | .addu _ _ _ | .sub _ _ _ | .subu _ _ _ | .and _ _ _ | .or _ _ _ | .xor _ _ _ | .nor _ _ _
  | .slt _ _ _ | .sltu _ _ _ | .addi _ _ _ | .addiu _ _ _ | .slti _ _ _ | .sltiu _ _ _ | .andi _ _ _
  | .ori _ _ _ | .xori _ _ _ | .lui _ _ | .sll _ _ _ | .srl _ _ _ | .sra _ _ _ | .sllv _ _ _
  | .srlv _ _ _ | .srav _ _ _ | .mult _ _ | .multu _ _ | .div _ _ | .divu _ _ | .mfhi _ | .mthi _
  | .mflo _ | .mtlo _ | .sync | .beq _ _ _ | .bne _ _ _ | .blez _ _ | .bgtz _ _ | .bltz _ _ | .bgez _ _
  | .bltzal _ _ | .bgezal _ _ | .beql _ _ _ | .bnel _ _ _ | .blezl _ _ | .bgtzl _ _ | .bltzl _ _
  | .bgezl _ _ | .bltzall _ _ | .bgezall _ _ | .j _ | .jal _ | .jr _ | .jalr _ _ | .tge _ _ _
  | .tgeu _ _ _ | .tlt _ _ _ | .tltu _ _ _ | .teq _ _ _ | .tne _ _ _ | .tgei _ _ | .tgeiu _ _
  | .tlti _ _ | .tltiu _ _ | .teqi _ _ | .tnei _ _ | .syscall _ | .brk _ => false
  | .lbaiV _ _ _ | .lhaiV _ _ _ | .lwaiV _ _ _ | .lbuaiV _ _ _ | .lhuaiV _ _ _ | .lbxV _ _ _
  | .lhxV _ _ _ | .lwxV _ _ _ | .lbuxV _ _ _ | .lhuxV _ _ _ | .lbstV _ _ _ | .lhstV _ _ _
  | .lwstV _ _ _ | .lbustV _ _ _ | .lhustV _ _ _ | .sbaiV _ _ _ | .shaiV _ _ _ | .swaiV _ _ _
  | .sbxV _ _ _ | .shxV _ _ _ | .swxV _ _ _ | .sbstV _ _ _ | .shstV _ _ _ | .swstV _ _ _ | .lb _ _ _
  | .lbu _ _ _ | .lh _ _ _ | .lhu _ _ _ | .lw _ _ _ | .lwl _ _ _ | .lwr _ _ _ | .sb _ _ _ | .sh _ _ _
  | .sw _ _ _ | .swl _ _ _ | .swr _ _ _ | .ll _ _ _ | .sc _ _ _ => true

/-- The branches and jumps (R411 to R430). -/
def Instr.isBranch : Instr → Bool
  | .cfvu _ _ | .ctvu _ _ | .vextV _ _ _ | .vinsS _ _ _ | .vextS _ _ _ | .lbaiV _ _ _ | .lhaiV _ _ _
  | .lwaiV _ _ _ | .lbuaiV _ _ _ | .lhuaiV _ _ _ | .lbxV _ _ _ | .lhxV _ _ _ | .lwxV _ _ _
  | .lbuxV _ _ _ | .lhuxV _ _ _ | .lbstV _ _ _ | .lhstV _ _ _ | .lwstV _ _ _ | .lbustV _ _ _
  | .lhustV _ _ _ | .sbaiV _ _ _ | .shaiV _ _ _ | .swaiV _ _ _ | .sbxV _ _ _ | .shxV _ _ _
  | .swxV _ _ _ | .sbstV _ _ _ | .shstV _ _ _ | .swstV _ _ _ | .andVV _ _ _ | .andVS _ _ _
  | .orVV _ _ _ | .orVS _ _ _ | .xorVV _ _ _ | .xorVS _ _ _ | .norVV _ _ _ | .norVS _ _ _
  | .addVV _ _ _ | .addVS _ _ _ | .adduVV _ _ _ | .adduVS _ _ _ | .subVV _ _ _ | .subVS _ _ _
  | .subSV _ _ _ | .subuVV _ _ _ | .subuVS _ _ _ | .subuSV _ _ _ | .sllvVV _ _ _ | .sllvVS _ _ _
  | .sllvSV _ _ _ | .sravVV _ _ _ | .sravVS _ _ _ | .sravSV _ _ _ | .srlvVV _ _ _ | .srlvVS _ _ _
  | .srlvSV _ _ _ | .sltVV _ _ _ | .sltVS _ _ _ | .sltSV _ _ _ | .sltuVV _ _ _ | .sltuVS _ _ _
  | .sltuSV _ _ _ | .seqVV _ _ _ | .seqVS _ _ _ | .fltVV _ _ | .fltVS _ _ | .fltSV _ _ | .fltuVV _ _
  | .fltuVS _ _ | .fltuSV _ _ | .feqVV _ _ | .feqVS _ _ | .cmvnezVV _ _ _ | .cmvgezVV _ _ _
  | .cmvlezVV _ _ _ | .cmveqzVV _ _ _ | .cmvltzVV _ _ _ | .cmvgtzVV _ _ _ | .cmvnezVS _ _ _
  | .cmvgezVS _ _ _ | .cmvlezVS _ _ _ | .cmveqzVS _ _ _ | .cmvltzVS _ _ _ | .cmvgtzVS _ _ _
  | .fxaddVV _ _ _ _ | .fxaddVS _ _ _ _ | .fxaddSV _ _ _ _ | .fxsubVV _ _ _ _ | .fxsubVS _ _ _ _
  | .fxsubSV _ _ _ _ | .fxmulVV _ _ _ _ | .fxmulVS _ _ _ _ | .fxmulSV _ _ _ _ | .add _ _ _
  | .addu _ _ _ | .sub _ _ _ | .subu _ _ _ | .and _ _ _ | .or _ _ _ | .xor _ _ _ | .nor _ _ _
  | .slt _ _ _ | .sltu _ _ _ | .addi _ _ _ | .addiu _ _ _ | .slti _ _ _ | .sltiu _ _ _ | .andi _ _ _
  | .ori _ _ _ | .xori _ _ _ | .lui _ _ | .sll _ _ _ | .srl _ _ _ | .sra _ _ _ | .sllv _ _ _
  | .srlv _ _ _ | .srav _ _ _ | .mult _ _ | .multu _ _ | .div _ _ | .divu _ _ | .mfhi _ | .mthi _
  | .mflo _ | .mtlo _ | .lb _ _ _ | .lbu _ _ _ | .lh _ _ _ | .lhu _ _ _ | .lw _ _ _ | .lwl _ _ _
  | .lwr _ _ _ | .sb _ _ _ | .sh _ _ _ | .sw _ _ _ | .swl _ _ _ | .swr _ _ _ | .ll _ _ _ | .sc _ _ _
  | .sync | .tge _ _ _ | .tgeu _ _ _ | .tlt _ _ _ | .tltu _ _ _ | .teq _ _ _ | .tne _ _ _ | .tgei _ _
  | .tgeiu _ _ | .tlti _ _ | .tltiu _ _ | .teqi _ _ | .tnei _ _ | .syscall _ | .brk _ => false
  | .beq _ _ _ | .bne _ _ _ | .blez _ _ | .bgtz _ _ | .bltz _ _ | .bgez _ _ | .bltzal _ _ | .bgezal _ _
  | .beql _ _ _ | .bnel _ _ _ | .blezl _ _ | .bgtzl _ _ | .bltzl _ _ | .bgezl _ _ | .bltzall _ _
  | .bgezall _ _ | .j _ | .jal _ | .jr _ | .jalr _ _ => true

/-- The instructions that write `HI` or `LO` (R368). -/
def Instr.writesHiLo : Instr → Bool
  | .cfvu _ _ | .ctvu _ _ | .vextV _ _ _ | .vinsS _ _ _ | .vextS _ _ _ | .lbaiV _ _ _ | .lhaiV _ _ _
  | .lwaiV _ _ _ | .lbuaiV _ _ _ | .lhuaiV _ _ _ | .lbxV _ _ _ | .lhxV _ _ _ | .lwxV _ _ _
  | .lbuxV _ _ _ | .lhuxV _ _ _ | .lbstV _ _ _ | .lhstV _ _ _ | .lwstV _ _ _ | .lbustV _ _ _
  | .lhustV _ _ _ | .sbaiV _ _ _ | .shaiV _ _ _ | .swaiV _ _ _ | .sbxV _ _ _ | .shxV _ _ _
  | .swxV _ _ _ | .sbstV _ _ _ | .shstV _ _ _ | .swstV _ _ _ | .andVV _ _ _ | .andVS _ _ _
  | .orVV _ _ _ | .orVS _ _ _ | .xorVV _ _ _ | .xorVS _ _ _ | .norVV _ _ _ | .norVS _ _ _
  | .addVV _ _ _ | .addVS _ _ _ | .adduVV _ _ _ | .adduVS _ _ _ | .subVV _ _ _ | .subVS _ _ _
  | .subSV _ _ _ | .subuVV _ _ _ | .subuVS _ _ _ | .subuSV _ _ _ | .sllvVV _ _ _ | .sllvVS _ _ _
  | .sllvSV _ _ _ | .sravVV _ _ _ | .sravVS _ _ _ | .sravSV _ _ _ | .srlvVV _ _ _ | .srlvVS _ _ _
  | .srlvSV _ _ _ | .sltVV _ _ _ | .sltVS _ _ _ | .sltSV _ _ _ | .sltuVV _ _ _ | .sltuVS _ _ _
  | .sltuSV _ _ _ | .seqVV _ _ _ | .seqVS _ _ _ | .fltVV _ _ | .fltVS _ _ | .fltSV _ _ | .fltuVV _ _
  | .fltuVS _ _ | .fltuSV _ _ | .feqVV _ _ | .feqVS _ _ | .cmvnezVV _ _ _ | .cmvgezVV _ _ _
  | .cmvlezVV _ _ _ | .cmveqzVV _ _ _ | .cmvltzVV _ _ _ | .cmvgtzVV _ _ _ | .cmvnezVS _ _ _
  | .cmvgezVS _ _ _ | .cmvlezVS _ _ _ | .cmveqzVS _ _ _ | .cmvltzVS _ _ _ | .cmvgtzVS _ _ _
  | .fxaddVV _ _ _ _ | .fxaddVS _ _ _ _ | .fxaddSV _ _ _ _ | .fxsubVV _ _ _ _ | .fxsubVS _ _ _ _
  | .fxsubSV _ _ _ _ | .fxmulVV _ _ _ _ | .fxmulVS _ _ _ _ | .fxmulSV _ _ _ _ | .add _ _ _
  | .addu _ _ _ | .sub _ _ _ | .subu _ _ _ | .and _ _ _ | .or _ _ _ | .xor _ _ _ | .nor _ _ _
  | .slt _ _ _ | .sltu _ _ _ | .addi _ _ _ | .addiu _ _ _ | .slti _ _ _ | .sltiu _ _ _ | .andi _ _ _
  | .ori _ _ _ | .xori _ _ _ | .lui _ _ | .sll _ _ _ | .srl _ _ _ | .sra _ _ _ | .sllv _ _ _
  | .srlv _ _ _ | .srav _ _ _ | .mfhi _ | .mflo _ | .lb _ _ _ | .lbu _ _ _ | .lh _ _ _ | .lhu _ _ _
  | .lw _ _ _ | .lwl _ _ _ | .lwr _ _ _ | .sb _ _ _ | .sh _ _ _ | .sw _ _ _ | .swl _ _ _ | .swr _ _ _
  | .ll _ _ _ | .sc _ _ _ | .sync | .beq _ _ _ | .bne _ _ _ | .blez _ _ | .bgtz _ _ | .bltz _ _
  | .bgez _ _ | .bltzal _ _ | .bgezal _ _ | .beql _ _ _ | .bnel _ _ _ | .blezl _ _ | .bgtzl _ _
  | .bltzl _ _ | .bgezl _ _ | .bltzall _ _ | .bgezall _ _ | .j _ | .jal _ | .jr _ | .jalr _ _
  | .tge _ _ _ | .tgeu _ _ _ | .tlt _ _ _ | .tltu _ _ _ | .teq _ _ _ | .tne _ _ _ | .tgei _ _
  | .tgeiu _ _ | .tlti _ _ | .tltiu _ _ | .teqi _ _ | .tnei _ _ | .syscall _ | .brk _ => false
  | .mult _ _ | .multu _ _ | .div _ _ | .divu _ _ | .mthi _ | .mtlo _ => true

/-- The instructions that read `HI` or `LO` (R368). -/
def Instr.readsHiLo : Instr → Bool
  | .cfvu _ _ | .ctvu _ _ | .vextV _ _ _ | .vinsS _ _ _ | .vextS _ _ _ | .lbaiV _ _ _ | .lhaiV _ _ _
  | .lwaiV _ _ _ | .lbuaiV _ _ _ | .lhuaiV _ _ _ | .lbxV _ _ _ | .lhxV _ _ _ | .lwxV _ _ _
  | .lbuxV _ _ _ | .lhuxV _ _ _ | .lbstV _ _ _ | .lhstV _ _ _ | .lwstV _ _ _ | .lbustV _ _ _
  | .lhustV _ _ _ | .sbaiV _ _ _ | .shaiV _ _ _ | .swaiV _ _ _ | .sbxV _ _ _ | .shxV _ _ _
  | .swxV _ _ _ | .sbstV _ _ _ | .shstV _ _ _ | .swstV _ _ _ | .andVV _ _ _ | .andVS _ _ _
  | .orVV _ _ _ | .orVS _ _ _ | .xorVV _ _ _ | .xorVS _ _ _ | .norVV _ _ _ | .norVS _ _ _
  | .addVV _ _ _ | .addVS _ _ _ | .adduVV _ _ _ | .adduVS _ _ _ | .subVV _ _ _ | .subVS _ _ _
  | .subSV _ _ _ | .subuVV _ _ _ | .subuVS _ _ _ | .subuSV _ _ _ | .sllvVV _ _ _ | .sllvVS _ _ _
  | .sllvSV _ _ _ | .sravVV _ _ _ | .sravVS _ _ _ | .sravSV _ _ _ | .srlvVV _ _ _ | .srlvVS _ _ _
  | .srlvSV _ _ _ | .sltVV _ _ _ | .sltVS _ _ _ | .sltSV _ _ _ | .sltuVV _ _ _ | .sltuVS _ _ _
  | .sltuSV _ _ _ | .seqVV _ _ _ | .seqVS _ _ _ | .fltVV _ _ | .fltVS _ _ | .fltSV _ _ | .fltuVV _ _
  | .fltuVS _ _ | .fltuSV _ _ | .feqVV _ _ | .feqVS _ _ | .cmvnezVV _ _ _ | .cmvgezVV _ _ _
  | .cmvlezVV _ _ _ | .cmveqzVV _ _ _ | .cmvltzVV _ _ _ | .cmvgtzVV _ _ _ | .cmvnezVS _ _ _
  | .cmvgezVS _ _ _ | .cmvlezVS _ _ _ | .cmveqzVS _ _ _ | .cmvltzVS _ _ _ | .cmvgtzVS _ _ _
  | .fxaddVV _ _ _ _ | .fxaddVS _ _ _ _ | .fxaddSV _ _ _ _ | .fxsubVV _ _ _ _ | .fxsubVS _ _ _ _
  | .fxsubSV _ _ _ _ | .fxmulVV _ _ _ _ | .fxmulVS _ _ _ _ | .fxmulSV _ _ _ _ | .add _ _ _
  | .addu _ _ _ | .sub _ _ _ | .subu _ _ _ | .and _ _ _ | .or _ _ _ | .xor _ _ _ | .nor _ _ _
  | .slt _ _ _ | .sltu _ _ _ | .addi _ _ _ | .addiu _ _ _ | .slti _ _ _ | .sltiu _ _ _ | .andi _ _ _
  | .ori _ _ _ | .xori _ _ _ | .lui _ _ | .sll _ _ _ | .srl _ _ _ | .sra _ _ _ | .sllv _ _ _
  | .srlv _ _ _ | .srav _ _ _ | .mult _ _ | .multu _ _ | .div _ _ | .divu _ _ | .mthi _ | .mtlo _
  | .lb _ _ _ | .lbu _ _ _ | .lh _ _ _ | .lhu _ _ _ | .lw _ _ _ | .lwl _ _ _ | .lwr _ _ _ | .sb _ _ _
  | .sh _ _ _ | .sw _ _ _ | .swl _ _ _ | .swr _ _ _ | .ll _ _ _ | .sc _ _ _ | .sync | .beq _ _ _
  | .bne _ _ _ | .blez _ _ | .bgtz _ _ | .bltz _ _ | .bgez _ _ | .bltzal _ _ | .bgezal _ _
  | .beql _ _ _ | .bnel _ _ _ | .blezl _ _ | .bgtzl _ _ | .bltzl _ _ | .bgezl _ _ | .bltzall _ _
  | .bgezall _ _ | .j _ | .jal _ | .jr _ | .jalr _ _ | .tge _ _ _ | .tgeu _ _ _ | .tlt _ _ _
  | .tltu _ _ _ | .teq _ _ _ | .tne _ _ _ | .tgei _ _ | .tgeiu _ _ | .tlti _ _ | .tltiu _ _ | .teqi _ _
  | .tnei _ _ | .syscall _ | .brk _ => false
  | .mfhi _ | .mflo _ => true

/-- The memory access that an instruction makes (R73): its unit, its kind, its bytes. An `sc` makes one only
when `LLbit` is set (R405). -/
def Instr.memoryAccess (i : Instr) (s : State) : Option AccessRecord :=
  match i with
  | .cfvu _ _ | .ctvu _ _ | .vextV _ _ _ | .vinsS _ _ _ | .vextS _ _ _ | .andVV _ _ _ | .andVS _ _ _
  | .orVV _ _ _ | .orVS _ _ _ | .xorVV _ _ _ | .xorVS _ _ _ | .norVV _ _ _ | .norVS _ _ _
  | .addVV _ _ _ | .addVS _ _ _ | .adduVV _ _ _ | .adduVS _ _ _ | .subVV _ _ _ | .subVS _ _ _
  | .subSV _ _ _ | .subuVV _ _ _ | .subuVS _ _ _ | .subuSV _ _ _ | .sllvVV _ _ _ | .sllvVS _ _ _
  | .sllvSV _ _ _ | .sravVV _ _ _ | .sravVS _ _ _ | .sravSV _ _ _ | .srlvVV _ _ _ | .srlvVS _ _ _
  | .srlvSV _ _ _ | .sltVV _ _ _ | .sltVS _ _ _ | .sltSV _ _ _ | .sltuVV _ _ _ | .sltuVS _ _ _
  | .sltuSV _ _ _ | .seqVV _ _ _ | .seqVS _ _ _ | .fltVV _ _ | .fltVS _ _ | .fltSV _ _ | .fltuVV _ _
  | .fltuVS _ _ | .fltuSV _ _ | .feqVV _ _ | .feqVS _ _ | .cmvnezVV _ _ _ | .cmvgezVV _ _ _
  | .cmvlezVV _ _ _ | .cmveqzVV _ _ _ | .cmvltzVV _ _ _ | .cmvgtzVV _ _ _ | .cmvnezVS _ _ _
  | .cmvgezVS _ _ _ | .cmvlezVS _ _ _ | .cmveqzVS _ _ _ | .cmvltzVS _ _ _ | .cmvgtzVS _ _ _
  | .fxaddVV _ _ _ _ | .fxaddVS _ _ _ _ | .fxaddSV _ _ _ _ | .fxsubVV _ _ _ _ | .fxsubVS _ _ _ _
  | .fxsubSV _ _ _ _ | .fxmulVV _ _ _ _ | .fxmulVS _ _ _ _ | .fxmulSV _ _ _ _ | .add _ _ _
  | .addu _ _ _ | .sub _ _ _ | .subu _ _ _ | .and _ _ _ | .or _ _ _ | .xor _ _ _ | .nor _ _ _
  | .slt _ _ _ | .sltu _ _ _ | .addi _ _ _ | .addiu _ _ _ | .slti _ _ _ | .sltiu _ _ _ | .andi _ _ _
  | .ori _ _ _ | .xori _ _ _ | .lui _ _ | .sll _ _ _ | .srl _ _ _ | .sra _ _ _ | .sllv _ _ _
  | .srlv _ _ _ | .srav _ _ _ | .mult _ _ | .multu _ _ | .div _ _ | .divu _ _ | .mfhi _ | .mthi _
  | .mflo _ | .mtlo _ | .sync | .beq _ _ _ | .bne _ _ _ | .blez _ _ | .bgtz _ _ | .bltz _ _ | .bgez _ _
  | .bltzal _ _ | .bgezal _ _ | .beql _ _ _ | .bnel _ _ _ | .blezl _ _ | .bgtzl _ _ | .bltzl _ _
  | .bgezl _ _ | .bltzall _ _ | .bgezall _ _ | .j _ | .jal _ | .jr _ | .jalr _ _ | .tge _ _ _
  | .tgeu _ _ _ | .tlt _ _ _ | .tltu _ _ _ | .teq _ _ _ | .tne _ _ _ | .tgei _ _ | .tgeiu _ _
  | .tlti _ _ | .tltiu _ _ | .teqi _ _ | .tnei _ _ | .syscall _ | .brk _ => none
  | .lbaiV _ rd rt | .lbuaiV _ rd rt =>
      some ⟨.vector, .read, s.elementBytes (.unit rd rt) .byte s.vlr.toNat⟩
  | .lhaiV _ rd rt | .lhuaiV _ rd rt =>
      some ⟨.vector, .read, s.elementBytes (.unit rd rt) .half s.vlr.toNat⟩
  | .lwaiV _ rd rt => some ⟨.vector, .read, s.elementBytes (.unit rd rt) .word s.vlr.toNat⟩
  | .lbxV _ rd vt | .lbuxV _ rd vt =>
      some ⟨.vector, .read, s.elementBytes (.indexed rd vt) .byte s.vlr.toNat⟩
  | .lhxV _ rd vt | .lhuxV _ rd vt =>
      some ⟨.vector, .read, s.elementBytes (.indexed rd vt) .half s.vlr.toNat⟩
  | .lwxV _ rd vt => some ⟨.vector, .read, s.elementBytes (.indexed rd vt) .word s.vlr.toNat⟩
  | .lbstV _ rd rt | .lbustV _ rd rt =>
      some ⟨.vector, .read, s.elementBytes (.strided rd rt) .byte s.vlr.toNat⟩
  | .lhstV _ rd rt | .lhustV _ rd rt =>
      some ⟨.vector, .read, s.elementBytes (.strided rd rt) .half s.vlr.toNat⟩
  | .lwstV _ rd rt => some ⟨.vector, .read, s.elementBytes (.strided rd rt) .word s.vlr.toNat⟩
  | .sbaiV _ rd rt => some ⟨.vector, .write, s.elementBytes (.unit rd rt) .byte s.vlr.toNat⟩
  | .shaiV _ rd rt => some ⟨.vector, .write, s.elementBytes (.unit rd rt) .half s.vlr.toNat⟩
  | .swaiV _ rd rt => some ⟨.vector, .write, s.elementBytes (.unit rd rt) .word s.vlr.toNat⟩
  | .sbxV _ rd vt => some ⟨.vector, .write, s.elementBytes (.indexed rd vt) .byte s.vlr.toNat⟩
  | .shxV _ rd vt => some ⟨.vector, .write, s.elementBytes (.indexed rd vt) .half s.vlr.toNat⟩
  | .swxV _ rd vt => some ⟨.vector, .write, s.elementBytes (.indexed rd vt) .word s.vlr.toNat⟩
  | .sbstV _ rd rt => some ⟨.vector, .write, s.elementBytes (.strided rd rt) .byte s.vlr.toNat⟩
  | .shstV _ rd rt => some ⟨.vector, .write, s.elementBytes (.strided rd rt) .half s.vlr.toNat⟩
  | .swstV _ rd rt => some ⟨.vector, .write, s.elementBytes (.strided rd rt) .word s.vlr.toNat⟩
  | .lb _ imm rs | .lbu _ imm rs => some ⟨.scalar, .read, byteAddrs (s.scalarAddr rs imm) 1⟩
  | .lh _ imm rs | .lhu _ imm rs => some ⟨.scalar, .read, byteAddrs (s.scalarAddr rs imm) 2⟩
  | .lw _ imm rs | .ll _ imm rs => some ⟨.scalar, .read, byteAddrs (s.scalarAddr rs imm) 4⟩
  | .lwl _ imm rs =>
      some ⟨.scalar, .read,
        (leftLanes s.cfg.endian (s.scalarAddr rs imm)).map fun l => l.1⟩
  | .lwr _ imm rs =>
      some ⟨.scalar, .read,
        (rightLanes s.cfg.endian (s.scalarAddr rs imm)).map fun l => l.1⟩
  | .sb _ imm rs => some ⟨.scalar, .write, byteAddrs (s.scalarAddr rs imm) 1⟩
  | .sh _ imm rs => some ⟨.scalar, .write, byteAddrs (s.scalarAddr rs imm) 2⟩
  | .sw _ imm rs => some ⟨.scalar, .write, byteAddrs (s.scalarAddr rs imm) 4⟩
  | .swl _ imm rs =>
      some ⟨.scalar, .write,
        (leftLanes s.cfg.endian (s.scalarAddr rs imm)).map fun l => l.1⟩
  | .swr _ imm rs =>
      some ⟨.scalar, .write,
        (rightLanes s.cfg.endian (s.scalarAddr rs imm)).map fun l => l.1⟩
  | .sc _ imm rs => if s.llBit then some ⟨.scalar, .write, byteAddrs (s.scalarAddr rs imm) 4⟩ else none

/-- The vector access of a vector load or store (42). -/
def Instr.vectorAccess : Instr → Option VectorAccess
  | .cfvu _ _ | .ctvu _ _ | .vextV _ _ _ | .vinsS _ _ _ | .vextS _ _ _ | .andVV _ _ _ | .andVS _ _ _
  | .orVV _ _ _ | .orVS _ _ _ | .xorVV _ _ _ | .xorVS _ _ _ | .norVV _ _ _ | .norVS _ _ _
  | .addVV _ _ _ | .addVS _ _ _ | .adduVV _ _ _ | .adduVS _ _ _ | .subVV _ _ _ | .subVS _ _ _
  | .subSV _ _ _ | .subuVV _ _ _ | .subuVS _ _ _ | .subuSV _ _ _ | .sllvVV _ _ _ | .sllvVS _ _ _
  | .sllvSV _ _ _ | .sravVV _ _ _ | .sravVS _ _ _ | .sravSV _ _ _ | .srlvVV _ _ _ | .srlvVS _ _ _
  | .srlvSV _ _ _ | .sltVV _ _ _ | .sltVS _ _ _ | .sltSV _ _ _ | .sltuVV _ _ _ | .sltuVS _ _ _
  | .sltuSV _ _ _ | .seqVV _ _ _ | .seqVS _ _ _ | .fltVV _ _ | .fltVS _ _ | .fltSV _ _ | .fltuVV _ _
  | .fltuVS _ _ | .fltuSV _ _ | .feqVV _ _ | .feqVS _ _ | .cmvnezVV _ _ _ | .cmvgezVV _ _ _
  | .cmvlezVV _ _ _ | .cmveqzVV _ _ _ | .cmvltzVV _ _ _ | .cmvgtzVV _ _ _ | .cmvnezVS _ _ _
  | .cmvgezVS _ _ _ | .cmvlezVS _ _ _ | .cmveqzVS _ _ _ | .cmvltzVS _ _ _ | .cmvgtzVS _ _ _
  | .fxaddVV _ _ _ _ | .fxaddVS _ _ _ _ | .fxaddSV _ _ _ _ | .fxsubVV _ _ _ _ | .fxsubVS _ _ _ _
  | .fxsubSV _ _ _ _ | .fxmulVV _ _ _ _ | .fxmulVS _ _ _ _ | .fxmulSV _ _ _ _ | .add _ _ _
  | .addu _ _ _ | .sub _ _ _ | .subu _ _ _ | .and _ _ _ | .or _ _ _ | .xor _ _ _ | .nor _ _ _
  | .slt _ _ _ | .sltu _ _ _ | .addi _ _ _ | .addiu _ _ _ | .slti _ _ _ | .sltiu _ _ _ | .andi _ _ _
  | .ori _ _ _ | .xori _ _ _ | .lui _ _ | .sll _ _ _ | .srl _ _ _ | .sra _ _ _ | .sllv _ _ _
  | .srlv _ _ _ | .srav _ _ _ | .mult _ _ | .multu _ _ | .div _ _ | .divu _ _ | .mfhi _ | .mthi _
  | .mflo _ | .mtlo _ | .lb _ _ _ | .lbu _ _ _ | .lh _ _ _ | .lhu _ _ _ | .lw _ _ _ | .lwl _ _ _
  | .lwr _ _ _ | .sb _ _ _ | .sh _ _ _ | .sw _ _ _ | .swl _ _ _ | .swr _ _ _ | .ll _ _ _ | .sc _ _ _
  | .sync | .beq _ _ _ | .bne _ _ _ | .blez _ _ | .bgtz _ _ | .bltz _ _ | .bgez _ _ | .bltzal _ _
  | .bgezal _ _ | .beql _ _ _ | .bnel _ _ _ | .blezl _ _ | .bgtzl _ _ | .bltzl _ _ | .bgezl _ _
  | .bltzall _ _ | .bgezall _ _ | .j _ | .jal _ | .jr _ | .jalr _ _ | .tge _ _ _ | .tgeu _ _ _
  | .tlt _ _ _ | .tltu _ _ _ | .teq _ _ _ | .tne _ _ _ | .tgei _ _ | .tgeiu _ _ | .tlti _ _
  | .tltiu _ _ | .teqi _ _ | .tnei _ _ | .syscall _ | .brk _ => none
  | .lbaiV vd rd rt | .lbuaiV vd rd rt => some ⟨.read, vd, .unit rd rt, .byte⟩
  | .lhaiV vd rd rt | .lhuaiV vd rd rt => some ⟨.read, vd, .unit rd rt, .half⟩
  | .lwaiV vd rd rt => some ⟨.read, vd, .unit rd rt, .word⟩
  | .lbxV vd rd vt | .lbuxV vd rd vt => some ⟨.read, vd, .indexed rd vt, .byte⟩
  | .lhxV vd rd vt | .lhuxV vd rd vt => some ⟨.read, vd, .indexed rd vt, .half⟩
  | .lwxV vd rd vt => some ⟨.read, vd, .indexed rd vt, .word⟩
  | .lbstV vd rd rt | .lbustV vd rd rt => some ⟨.read, vd, .strided rd rt, .byte⟩
  | .lhstV vd rd rt | .lhustV vd rd rt => some ⟨.read, vd, .strided rd rt, .half⟩
  | .lwstV vd rd rt => some ⟨.read, vd, .strided rd rt, .word⟩
  | .sbaiV vd rd rt => some ⟨.write, vd, .unit rd rt, .byte⟩
  | .shaiV vd rd rt => some ⟨.write, vd, .unit rd rt, .half⟩
  | .swaiV vd rd rt => some ⟨.write, vd, .unit rd rt, .word⟩
  | .sbxV vd rd vt => some ⟨.write, vd, .indexed rd vt, .byte⟩
  | .shxV vd rd vt => some ⟨.write, vd, .indexed rd vt, .half⟩
  | .swxV vd rd vt => some ⟨.write, vd, .indexed rd vt, .word⟩
  | .sbstV vd rd rt => some ⟨.write, vd, .strided rd rt, .byte⟩
  | .shstV vd rd rt => some ⟨.write, vd, .strided rd rt, .half⟩
  | .swstV vd rd rt => some ⟨.write, vd, .strided rd rt, .word⟩

end Sys2Proof

namespace Sys2Proof.Machine

/-! ## When an instruction may run -/

/-- `step` fetches a word: no trap is set, `pc` is a multiple of 4, the four bytes at `pc` are program text that
may be fetched, and they are the word's (R410, R494). -/
structure Fetches (s : State) (w : Word) : Prop where
  running : s.trap = none
  aligned : s.pc.toNat % 4 = 0
  fetchable : s.fetchable = true
  word : s.fetchedWord = w

/-- What `VectorPrologue` (R100) asks: coprocessor 2 usable, every vector register present, `vlr` at most
`MVL`. -/
structure VectorReady (i : Instr) (s : State) : Prop where
  usable : s.cu2 = true
  present : ∀ j ∈ i.vectorRegisters, j.toNat < s.cfg.nvreg
  length : s.vlr.toNat ≤ 32

/-- What a memory instruction must meet before its transfer: no conflict since the last `sync` (R73), no store
to the program text (R77), every byte in the launch memory with the permission it needs (R79). -/
structure Grants (s : State) (new : AccessRecord) : Prop where
  ordered : s.unsyncedConflict new = false
  notText : new.kind = .write → ∀ a ∈ new.bytes, s.inText a = false
  mapped : ∀ a ∈ new.bytes, s.mapped new.kind a = true

/-! ## How an instruction ends -/

/-- The sequential advance (R410). -/
def Advances (s t : State) : Prop :=
  t.pc = s.npc ∧ t.npc = s.npc + 4 ∧ t.inDelaySlot = false

/-- The instruction answers a next state in which it has raised nothing, the next instruction is the one that
follows, everything outside its footprint is unchanged, and `post` holds. -/
def Completes (i : Instr) (s : State) (post : State → Prop) : Prop :=
  ∃ t, exec i s = .next t ∧ t.trap = s.trap ∧ Advances s t ∧ Unchanged (i.footprint s) s t ∧ post t

/-- The instruction completes and a scalar register receives a value; a write to register 0 is dropped
(R21). -/
def Writes (i : Instr) (s : State) (rd : Reg) (w : Word) : Prop :=
  Completes i s fun t => t.x rd = if rd = 0 then 0 else w

/-- The first `vlr` elements of a vector register hold the values of `f`, the others are unchanged (R30);
register 0 still reads zero (R27). -/
def ElementsAre (s t : State) (vw : VReg) (f : Nat → Word) : Prop :=
  ∀ k, k < 32 → t.v vw k = if vw = 0 then 0 else if k < s.vlr.toNat then f k else s.v vw k

/-- When the prologue lets it run, the instruction completes and a vector register receives values. -/
def VectorWrites (i : Instr) (s : State) (vw : VReg) (f : Nat → Word) : Prop :=
  VectorReady i s → Completes i s fun t => ElementsAre s t vw f

/-- The instruction raises an exception: only the trap record is written, with the address of the instruction,
or of the branch whose delay slot it is in (R470, R471). -/
def Raises (i : Instr) (s : State) (cause : Cause) (info : TrapInfo) : Prop :=
  exec i s = .next { s with
    trap := some ⟨cause, if s.inDelaySlot then s.pc - 4 else s.pc, s.inDelaySlot, info⟩ }

/-- A conditional branch: taken, it goes to `target` after its delay slot; not taken, an ordinary branch falls
through to its delay slot and a likely one skips it (R408 to R410). -/
def Branches (i : Instr) (s : State) (likely taken : Bool) (target : Word) : Prop :=
  ∃ t, exec i s = .next t ∧ t.trap = s.trap ∧ Unchanged (i.footprint s) s t ∧
    (taken = true → t.pc = s.npc ∧ t.npc = target ∧ t.inDelaySlot = true) ∧
    (taken = false → likely = false → t.pc = s.npc ∧ t.npc = s.npc + 4 ∧ t.inDelaySlot = true) ∧
    (taken = false → likely = true → t.pc = s.npc + 4 ∧ t.npc = s.npc + 8 ∧ t.inDelaySlot = false)

/-! ## Values in memory -/

/-- The unsigned value of the `n` bytes at an address, in a byte order (R61, R62). -/
def itemNat (e : Endian) (m : Memory) (a : Nat) : Nat → Nat
  | 0 => 0
  | n + 1 =>
    match e with
    | .big => itemNat e m a n * 256 + (m.read (a + n)).toNat
    | .little => itemNat e m a n + (m.read (a + n)).toNat * 256 ^ n

/-- The value that a load gives a register: sign- or zero-extended (R64). -/
def itemWord (ext : Extension) (e : Endian) (m : Memory) (a : Nat) (size : Size) : Word :=
  let z := itemNat e m a size.bytes
  match ext with
  | .zero => BitVec.ofNat 32 z
  | .sign => trunc32 (if 2 * z < 256 ^ size.bytes then (z : Int) else (z : Int) - 256 ^ size.bytes)

/-! ## The invariant -/

/-- What every step keeps. -/
structure State.Inv (s : State) : Prop where
  /-- Memory is in its canonical form (log 7). -/
  memory : s.mem.wf = true
  /-- Outside a delay slot the next instruction is the one after `pc` (R410). -/
  sequential : s.inDelaySlot = false → s.npc = s.pc + 4
  /-- The count of R503 stands for at most two instructions. -/
  hiLoCount : s.sinceHiLo ≤ 2
  /-- No two memory instructions since the last `sync` conflict (R73). -/
  ordered : s.unsynced.Pairwise fun old new => old.conflicts new = false
  /-- The list is kept only when `SYNC_REQUIRED` (R73). -/
  unordered : s.cfg.syncRequired = false → s.unsynced = []
  /-- A trap record names the instruction at `pc`, or the branch before it (R470). -/
  trapped : ∀ r, s.trap = some r →
    r.bd = s.inDelaySlot ∧ r.epc = if s.inDelaySlot then s.pc - 4 else s.pc

end Sys2Proof.Machine
end

