-- ==== Sys2Proof/Certificates/Slice0/Obligations.lean ====
section
/-! DEFINITION. The statements for the provers. Each docstring names the rules of the spec it formalises. The
vocabulary (`Completes`, `Writes`, `Raises`, `Unchanged`, `Fetches`, …) is in Sys2Proof/Safety.lean. The value
formulas are written over integers, not with the operations the meanings use. -/

section Statements

open Sys2Proof Sys2Proof.Machine

/-! ## Decoding and encoding -/

/-- Words of the worked programs P1 to P3 (95, Part 3) decode to the instructions printed beside them. -/
def Obligations.DecodeExampleWords : Prop :=
  decodeWord 0x48C91000 = .instr (.ctvu 9 2) ∧
  decodeWord 0x484C4000 = .instr (.cfvu 12 8) ∧
  decodeWord 0x4A014162 = .instr (.vextV 2 1 8) ∧
  decodeWord 0x4A220361 = .instr (.vextS 2 1 0) ∧
  decodeWord 0x4A6A2061 = .instr (.lwaiV 1 4 10) ∧
  decodeWord 0x4A6A3163 = .instr (.swaiV 3 6 10) ∧
  decodeWord 0x4A828061 = .instr (.addVV 3 1 2) ∧
  decodeWord 0x4AA02003 = .instr (.fltVS 3 0) ∧
  decodeWord 0x4AA0F063 = .instr (.cmvltzVS 3 3 0) ∧
  decodeWord 0x4BAA5841 = .instr (.fxmulVS 2 1 10 11) ∧
  decodeWord 0x2CE80021 = .instr (.sltiu 8 7 33) ∧
  decodeWord 0x00095080 = .instr (.sll 10 9 2) ∧
  decodeWord 0x8CCDFFFC = .instr (.lw 13 0xFFFC 6) ∧
  decodeWord 0x14E0FFF4 = .instr (.bne 7 0 0xFFF4) ∧
  decodeWord 0x0000000F = .instr .sync ∧
  decodeWord 0x0000000D = .instr (.brk 0)

/-- Every instruction, with every operand at every value, decodes from the bytes of its encoding, in either byte
order (R61, R101, R102, R330). -/
def Obligations.DecodeOfEncode : Prop :=
  ∀ (e : Endian) (i : Instr), decodeBytes e (splitBytes e 4 (encode i)) = .instr i

/-- Every word has one meaning: a word that decodes to an instruction is that instruction's encoding, so no
other word runs it and no bit of a word is ignored (R101, R102, R334). -/
def Obligations.EncodeOfDecode : Prop :=
  ∀ (w : Word) (i : Instr), decodeWord w = .instr i → encode i = w

/-- The reserved encodings of the vector unit (R103 to R107): reserved formats; reserved function codes of
V-MEM, V-INT and V-IX; `opers = 1` where it is not assigned; fixed-zero fields that are not zero. They raise
Coprocessor unusable, or Reserved instruction when coprocessor 2 is usable (R451, R452), with the trap record of
R470. That they trap, and how the words with fixed-zero fields do, is the spec's own decision D5 and the model's
choice of log 37. -/
def Obligations.ReservedVectorWordsTrap : Prop :=
  ∀ (s : State) (w : Word),
    let format := w.extractLsb' 21 5
    let f := w.extractLsb' 11 5
    let g := w.extractLsb' 5 5
    let opers := w.extractLsb' 10 1
    Fetches s w → w.extractLsb' 26 6 = 0b010010#6 →
    (format ∈ [0b10110#5, 0b10111#5, 0b11110#5, 0b11111#5] ∨
     (format = 0b10010#5 ∧ g ∉ [0b10000#5, 0b10001#5, 0b10011#5, 0b10100#5, 0b10101#5, 0b11000#5,
        0b11001#5, 0b11011#5]) ∨
     (format = 0b10011#5 ∧ g ∈ [0b00010#5, 0b00110#5, 0b00111#5, 0b01010#5, 0b01100#5, 0b01101#5,
        0b01110#5, 0b01111#5, 0b10010#5, 0b10110#5, 0b10111#5, 0b11010#5, 0b11100#5, 0b11101#5,
        0b11110#5, 0b11111#5]) ∨
     (format ∈ [0b10010#5, 0b10011#5] ∧ opers = 1) ∨
     (format ∈ [0b10100#5, 0b10101#5] ∧ f ∈ [0b00010#5, 0b00011#5, 0b00111#5, 0b01010#5, 0b01111#5,
        0b10010#5, 0b10011#5, 0b11000#5, 0b11100#5]) ∨
     (format = 0b10100#5 ∧ opers = 1) ∨
     (format = 0b10101#5 ∧ opers = 1 ∧ f ∈ [0b00110#5, 0b01110#5, 0b10000#5, 0b10001#5, 0b10100#5,
        0b10101#5, 0b10110#5, 0b10111#5, 0b11001#5, 0b11010#5, 0b11011#5, 0b11101#5, 0b11110#5,
        0b11111#5]) ∨
     (format ∈ [0b11000#5, 0b11010#5, 0b11100#5] ∧ opers = 1) ∨
     (format = 0b10000#5 ∧ (g ≠ 0b01011#5 ∨ opers = 1)) ∨
     (format = 0b10001#5 ∧ ((g ≠ 0b10011#5 ∧ g ≠ 0b11011#5) ∨ opers = 1)) ∨
     (format ∈ [0b10100#5, 0b10101#5] ∧ f ∈ [0b00100#5, 0b00101#5, 0b00110#5] ∧ g ≠ 0) ∨
     (format ∈ [0b00010#5, 0b00110#5] ∧ w.extractLsb' 0 11 ≠ 0)) →
    step s = .next { s with
      trap := some ⟨if s.cu2 then .reservedInstruction else .coprocessorUnusable,
        if s.inDelaySlot then s.pc - 4 else s.pc, s.inDelaySlot,
        if s.cu2 then .word w else .unit 2⟩ }

/-- The other words that are no instruction. Raised as exceptions: coprocessor-2 words that the vector unit does
not use and the coprocessor-2 loads and stores (R108), coprocessor 1 without floating point (R447), coprocessor 3
(R448), unassigned major opcodes, SPECIAL function codes and REGIMM codes (R449). Refused: coprocessor 0 (R446),
coprocessor 1 with floating point (R447), and the assigned scalar words with a must-be-zero field that is not zero
(R334). These are the spec's own decisions and the model's choices of logs 33 to 37. -/
def Obligations.OtherWordsStop : Prop :=
  ∀ (s : State) (w : Word),
    let major := w.extractLsb' 26 6
    let rs := w.extractLsb' 21 5
    let rt := w.extractLsb' 16 5
    let rd := w.extractLsb' 11 5
    let sa := w.extractLsb' 6 5
    let funct := w.extractLsb' 0 6
    let special := major = 0b000000#6
    let trapRecord := fun (cause : Cause) (info : TrapInfo) =>
      (⟨cause, if s.inDelaySlot then s.pc - 4 else s.pc, s.inDelaySlot, info⟩ : Trap)
    let mustBeZero :=
      (special ∧ funct ∈ [0#6, 2, 3] ∧ rs ≠ 0) ∨
      (special ∧ funct ∈ [4#6, 6, 7, 32, 33, 34, 35, 36, 37, 38, 39, 42, 43] ∧ sa ≠ 0) ∨
      (special ∧ funct ∈ [8#6, 17, 19] ∧ (rt ≠ 0 ∨ rd ≠ 0 ∨ sa ≠ 0)) ∨
      (special ∧ funct = 9 ∧ (rt ≠ 0 ∨ sa ≠ 0)) ∨
      (special ∧ funct = 15 ∧ (rs ≠ 0 ∨ rt ≠ 0 ∨ rd ≠ 0 ∨ sa ≠ 0)) ∨
      (special ∧ funct ∈ [16#6, 18] ∧ (rs ≠ 0 ∨ rt ≠ 0 ∨ sa ≠ 0)) ∨
      (special ∧ funct ∈ [24#6, 25, 26, 27] ∧ (rd ≠ 0 ∨ sa ≠ 0)) ∨
      (major = 0b001111#6 ∧ rs ≠ 0) ∨
      (major ∈ [0b000110#6, 0b000111#6, 0b010110#6, 0b010111#6] ∧ rt ≠ 0)
    Fetches s w →
    ((major = 0b010010#6 ∧ w.extractLsb' 25 1 = 0 ∧ w.extractLsb' 21 5 ∉ [0b00010#5, 0b00110#5]) ∨
        major ∈ [0b110010#6, 0b110110#6, 0b111010#6, 0b111110#6] →
      step s = .next { s with trap := some (if s.cu2 then trapRecord .reservedInstruction (.word w)
        else trapRecord .coprocessorUnusable (.unit 2)) }) ∧
    (major ∈ [0b010001#6, 0b110001#6, 0b110101#6, 0b111001#6, 0b111101#6] →
      (s.cfg.hasFpu = false →
        step s = .next { s with trap := some (trapRecord .coprocessorUnusable (.unit 1)) }) ∧
      (s.cfg.hasFpu = true → step s = .refused .floatingPointUnspecified)) ∧
    (major ∈ [0b010011#6, 0b110011#6, 0b110111#6, 0b111011#6, 0b111111#6] →
      step s = .next { s with trap := some (trapRecord .coprocessorUnusable (.unit 3)) }) ∧
    (major ∈ [0b011000#6, 0b011001#6, 0b011010#6, 0b011011#6, 0b011100#6, 0b011101#6, 0b011110#6,
        0b011111#6, 0b100111#6, 0b101100#6, 0b101101#6, 0b101111#6, 0b110100#6, 0b111100#6] ∨
      (special ∧ funct ∈ [1#6, 5, 10, 11, 14, 20, 21, 22, 23, 28, 29, 30, 31, 40, 41, 44, 45, 46, 47, 53,
        55, 56, 57, 58, 59, 60, 61, 62, 63]) ∨
      (major = 0b000001#6 ∧ rt ∈ [4#5, 5, 6, 7, 13, 15, 20, 21, 22, 23, 24, 25, 26, 27, 28, 29, 30, 31]) →
      step s = .next { s with trap := some (trapRecord .reservedInstruction (.word w)) }) ∧
    (mustBeZero → step s = .refused .mustBeZeroField) ∧
    (major = 0b010000#6 → step s = .refused .coprocessor0)

/-! ## The step -/

/-- A step runs the instruction whose encoding it fetches (R410). -/
def Obligations.StepRunsDecoded : Prop :=
  ∀ (s : State) (i : Instr), Fetches s (encode i) → step s = exec i s

/-- When a step runs nothing: a trap has ended the run (R470); `pc` is misaligned, which raises Address error
(R455); one of the four bytes at `pc` is outside the program text (R494), or the launch memory does not permit
fetching it (R79). That a byte inside the text without execute permission leaves the run stuck, which R494 does not
say, and that misalignment is tested first, is the model's reading (DEDUCED, log 52). -/
def Obligations.StepWithoutInstruction : Prop :=
  ∀ s : State,
    (∀ r, s.trap = some r → step s = .fault .runEnded) ∧
    (s.trap = none → s.pc.toNat % 4 ≠ 0 →
      step s = .next { s with trap := some ⟨.addressErrorLoad,
        if s.inDelaySlot then s.pc - 4 else s.pc, s.inDelaySlot, .address s.pc⟩ }) ∧
    (s.trap = none → s.pc.toNat % 4 = 0 → s.fetchable = false → step s = .fault .outsideText)

/-- An instruction placed where it is fetched next is the one that the step fetches: storing a word and reading
it back agree in either byte order (R61 to R63, R491). -/
def Obligations.PlacedInstructionIsFetched : Prop :=
  ∀ (s : State) (i : Instr), s.mem.wf = true → s.trap = none → s.pc.toNat % 4 = 0 →
    (∀ a ∈ byteAddrs s.pc 4, s.executable a = true) →
    Fetches (s.withFetchWord 32 (encode i).toNat) (encode i)

/-! ## The invariant and the rules of the whole machine -/

/-- The invariant holds right after reset. -/
def Obligations.ResetMeetsInvariant : Prop :=
  State.reset.Inv

/-- Every step keeps the invariant, from every state that meets it. -/
def Obligations.StepKeepsInvariant : Prop :=
  ∀ s t : State, s.Inv → step s = .next t → t.Inv

/-- A step changes a byte of memory only if it runs an instruction that stores to it; the byte is writable and
is not program text (R63, R70, R77, R79). A strided or indexed store that raises Vector address is such an instruction:
R82 leaves every byte at its aligned element addresses open, and that it too changes none that is read-only or program
text is the model's reading of R77 and R79 (log 23). -/
def Obligations.OnlyStoresChangeMemory : Prop :=
  ∀ (s t : State) (a : Nat), step s = .next t → t.mem.read a ≠ s.mem.read a →
    ∃ i, Fetches s (encode i) ∧ a ∈ (i.footprint s).bytes ∧ s.mapped .write a = true ∧
      s.inText a = false

/-- R36, R37, R38: `vcond` is altered only by `flt`, `fltu`, `feq` and `ctvu`; a bit of `vovf` is set only by
`add` and `sub` and cleared only by `ctvu`; a bit of `vsat` is set only by the fixed-point instructions and
cleared only by `ctvu`; `vlr` is written only by `ctvu` (R35). -/
def Obligations.FlagRegistersChangeOnlyAsStated : Prop :=
  ∀ (s t : State) (i : Instr), exec i s = .next t →
    (t.vlr ≠ s.vlr → ∃ rt, i = .ctvu rt 2) ∧
    (t.vcond ≠ s.vcond → (∃ rt, i = .ctvu rt 4) ∨ (∃ vd vt, i = .fltVV vd vt) ∨
      (∃ vd rt, i = .fltVS vd rt) ∨ (∃ rt vd, i = .fltSV rt vd) ∨ (∃ vd vt, i = .fltuVV vd vt) ∨
      (∃ vd rt, i = .fltuVS vd rt) ∨ (∃ rt vd, i = .fltuSV rt vd) ∨ (∃ vd vt, i = .feqVV vd vt) ∨
      (∃ vd rt, i = .feqVS vd rt)) ∧
    (∀ k, k < 32 → s.vovf.getLsbD k = true → t.vovf.getLsbD k = false → ∃ rt, i = .ctvu rt 8) ∧
    (∀ k, k < 32 → s.vsat.getLsbD k = true → t.vsat.getLsbD k = false → ∃ rt, i = .ctvu rt 12) ∧
    (t.vovf ≠ s.vovf → (∃ rt, i = .ctvu rt 8) ∨
      (∃ vw vd vt, i = .addVV vw vd vt) ∨ (∃ vw vd rt, i = .addVS vw vd rt) ∨
      (∃ vw vd vt, i = .subVV vw vd vt) ∨ (∃ vw vd rt, i = .subVS vw vd rt) ∨
      (∃ vw rt vd, i = .subSV vw rt vd)) ∧
    (t.vsat ≠ s.vsat → (∃ rt, i = .ctvu rt 12) ∨
      (∃ vw vd vt rd, i = .fxaddVV vw vd vt rd) ∨ (∃ vw vd rt rd, i = .fxaddVS vw vd rt rd) ∨
      (∃ vw rt vd rd, i = .fxaddSV vw rt vd rd) ∨ (∃ vw vd vt rd, i = .fxsubVV vw vd vt rd) ∨
      (∃ vw vd rt rd, i = .fxsubVS vw vd rt rd) ∨ (∃ vw rt vd rd, i = .fxsubSV vw rt vd rd) ∨
      (∃ vw vd vt rd, i = .fxmulVV vw vd vt rd) ∨ (∃ vw vd rt rd, i = .fxmulVS vw vd rt rd) ∨
      (∃ vw rt vd rd, i = .fxmulSV vw rt vd rd))

/-- While coprocessor 2 is not usable, no step changes a vector register or a VU control register, and no step
ever changes the run parameters, the coprocessor enables, the launch memory or the program text (R40, R452). -/
def Obligations.UnusableVectorUnitIsUntouched : Prop :=
  ∀ s t : State, step s = .next t →
    (t.cfg = s.cfg ∧ t.cu1 = s.cu1 ∧ t.cu2 = s.cu2 ∧ t.map = s.map ∧ t.text = s.text) ∧
    (s.cu2 = false → t.vr = s.vr ∧ t.vcount = s.vcount ∧ t.vlr = s.vlr ∧ t.vcond = s.vcond ∧
      t.vovf = s.vovf ∧ t.vsat = s.vsat)

/-- Elements from `vlr` on are not written by any instruction that runs over `vlr` elements (R30). -/
def Obligations.ElementsFromVlrAreKept : Prop :=
  ∀ (s t : State) (i : Instr) (j : VReg) (k : Nat), i.runsOverVlr = true → exec i s = .next t →
    s.vlr.toNat ≤ k → t.v j k = s.v j k

/-- What an exception records and what it leaves (R470, R471): `epc` and `bd`; the program counter stays; all
other state is unchanged, except what a Vector address exception of a strided or indexed access leaves open (R82):
the destination elements of a load, and of a store the bytes at its aligned element addresses. Of those bytes the
statement leaves open only the ones that a store may write, which are in the launch memory with that permission (R79)
and no program text (R77). The letter of R82 leaves every one open, so the narrowing is the model's reading (log 23). -/
def Obligations.ExceptionsArePrecise : Prop :=
  ∀ (s t : State) (i : Instr) (r : Trap), s.trap = none → exec i s = .next t → t.trap = some r →
    r.epc = (if s.inDelaySlot then s.pc - 4 else s.pc) ∧ r.bd = s.inDelaySlot ∧
    t.pc = s.pc ∧ t.npc = s.npc ∧ t.inDelaySlot = s.inDelaySlot ∧ t.sinceHiLo = s.sinceHiLo ∧
    t.unsynced = s.unsynced ∧
    Unchanged (match r.cause, i.vectorAccess with
      | .vectorAddress, some m => m.leavesOpen s
      | _, _ => { }) s t

/-- The trap of an instruction in a delay slot names the branch before it (R470). -/
def Obligations.DelaySlotTrapNamesBranch : Prop :=
  ∀ (s t u : State) (i : Instr) (r : Trap), s.Inv → Fetches s (encode i) → i.isBranch = true →
    step s = .next t → t.inDelaySlot = true → step t = .next u → u.trap = some r →
    r.epc = s.pc ∧ r.bd = true

/-! ## Frames -/

/-- What the scalar instructions that access no memory leave unchanged: every register, flag, special register
and byte of memory outside the footprint (47, 48). -/
def Obligations.ScalarComputeFrame : Prop :=
  ∀ (s t : State) (i : Instr), i.isVu = false → i.isMemory = false → exec i s = .next t →
    (i.footprint s).bytes = [] ∧ Unchanged (i.footprint s) s t

/-- What the scalar loads and stores leave unchanged; the bytes stored to are at the effective address, or the
part of the word that `swl`, `swr` write (48). -/
def Obligations.ScalarMemoryFrame : Prop :=
  ∀ (s t : State) (i : Instr), i.isVu = false → i.isMemory = true → exec i s = .next t →
    Unchanged (i.footprint s) s t

/-- What the vector instructions that access no memory leave unchanged (40, 41, 43 to 46). -/
def Obligations.VectorRegisterFrame : Prop :=
  ∀ (s t : State) (i : Instr), i.isVu = true → i.isMemory = false → exec i s = .next t →
    (i.footprint s).bytes = [] ∧ Unchanged (i.footprint s) s t

/-- What the vector loads and stores leave unchanged, in every addressing mode; the bytes stored to are those of
the elements below `vlr` (42). -/
def Obligations.VectorMemoryFrame : Prop :=
  ∀ (s t : State) (i : Instr), i.isVu = true → i.isMemory = true → exec i s = .next t →
    Unchanged (i.footprint s) s t

/-! ## Scalar computation -/

/-- The scalar computational instructions that cannot trap: the value that each writes (R337, R339 to R345, R347
to R359). Arithmetic is exact and then taken modulo 2^32; shifts are multiplication and floor division by a
power of two. -/
def Obligations.ScalarResults : Prop :=
  ∀ (s : State) (rd rs rt : Reg) (imm : BitVec 16) (sa : BitVec 5),
    Writes (.addu rd rs rt) s rd (trunc32 ((s.x rs).toInt + (s.x rt).toInt)) ∧
    Writes (.subu rd rs rt) s rd (trunc32 ((s.x rs).toInt - (s.x rt).toInt)) ∧
    Writes (.and rd rs rt) s rd (s.x rs &&& s.x rt) ∧
    Writes (.or rd rs rt) s rd (s.x rs ||| s.x rt) ∧
    Writes (.xor rd rs rt) s rd (s.x rs ^^^ s.x rt) ∧
    Writes (.nor rd rs rt) s rd (~~~(s.x rs ||| s.x rt)) ∧
    Writes (.slt rd rs rt) s rd (if (s.x rs).toInt < (s.x rt).toInt then 1 else 0) ∧
    Writes (.sltu rd rs rt) s rd (if (s.x rs).toNat < (s.x rt).toNat then 1 else 0) ∧
    Writes (.addiu rt rs imm) s rt (trunc32 ((s.x rs).toInt + imm.toInt)) ∧
    Writes (.slti rt rs imm) s rt (if (s.x rs).toInt < imm.toInt then 1 else 0) ∧
    Writes (.sltiu rt rs imm) s rt (if (s.x rs).toNat < (trunc32 imm.toInt).toNat then 1 else 0) ∧
    Writes (.andi rt rs imm) s rt (s.x rs &&& BitVec.ofNat 32 imm.toNat) ∧
    Writes (.ori rt rs imm) s rt (s.x rs ||| BitVec.ofNat 32 imm.toNat) ∧
    Writes (.xori rt rs imm) s rt (s.x rs ^^^ BitVec.ofNat 32 imm.toNat) ∧
    Writes (.lui rt imm) s rt (BitVec.ofNat 32 (imm.toNat * 2 ^ 16)) ∧
    Writes (.sll rd rt sa) s rd (BitVec.ofNat 32 ((s.x rt).toNat * 2 ^ sa.toNat)) ∧
    Writes (.srl rd rt sa) s rd (BitVec.ofNat 32 ((s.x rt).toNat / 2 ^ sa.toNat)) ∧
    Writes (.sra rd rt sa) s rd (trunc32 ((s.x rt).toInt / 2 ^ sa.toNat)) ∧
    Writes (.sllv rd rt rs) s rd (BitVec.ofNat 32 ((s.x rt).toNat * 2 ^ ((s.x rs).toNat % 32))) ∧
    Writes (.srlv rd rt rs) s rd (BitVec.ofNat 32 ((s.x rt).toNat / 2 ^ ((s.x rs).toNat % 32))) ∧
    Writes (.srav rd rt rs) s rd (trunc32 ((s.x rt).toInt / 2 ^ ((s.x rs).toNat % 32)))

/-- R335, R336, R338, R346: `add`, `sub`, `addi` write the exact result when it is a signed 32-bit number;
otherwise they raise Integer overflow and write nothing. -/
def Obligations.OverflowingResults : Prop :=
  ∀ (s : State) (rd rs rt : Reg) (imm : BitVec 16),
    let fits := fun z : Int => -(2 ^ 31) ≤ z ∧ z < 2 ^ 31
    let Ends := fun (i : Instr) (r : Reg) (z : Int) =>
      (fits z → Writes i s r (trunc32 z)) ∧ (¬ fits z → Raises i s .integerOverflow .none)
    Ends (.add rd rs rt) rd ((s.x rs).toInt + (s.x rt).toInt) ∧
    Ends (.sub rd rs rt) rd ((s.x rs).toInt - (s.x rt).toInt) ∧
    Ends (.addi rt rs imm) rt ((s.x rs).toInt + imm.toInt)

/-- R360 to R363: the 64-bit product in `HI` and `LO`; the quotient truncated toward zero and the remainder,
for a divisor that is not zero; no trap. -/
def Obligations.MultiplyDivideResults : Prop :=
  ∀ (s : State) (rs rt : Reg), 2 ≤ s.sinceHiLo →
    Completes (.mult rs rt) s (fun t => t.hi ++ t.lo = BitVec.ofInt 64 ((s.x rs).toInt * (s.x rt).toInt)) ∧
    Completes (.multu rs rt) s (fun t => (t.hi ++ t.lo).toNat = (s.x rs).toNat * (s.x rt).toNat) ∧
    (s.x rt ≠ 0 → Completes (.div rs rt) s fun t =>
      t.lo = trunc32 ((s.x rs).toInt.tdiv (s.x rt).toInt) ∧
      t.hi = trunc32 ((s.x rs).toInt.tmod (s.x rt).toInt)) ∧
    (s.x rt ≠ 0 → Completes (.divu rs rt) s fun t =>
      (s.x rs).toNat = t.lo.toNat * (s.x rt).toNat + t.hi.toNat ∧ t.hi.toNat < (s.x rt).toNat)

/-- A division by zero raises nothing and goes on: only `HI` and `LO` change (R362, R363, R461). Their values
are free (log 15), so nothing is said of them. -/
def Obligations.DivideByZeroGoesOn : Prop :=
  ∀ (s : State) (rs rt : Reg), 2 ≤ s.sinceHiLo → s.x rt = 0 →
    Completes (.div rs rt) s (fun _ => True) ∧ Completes (.divu rs rt) s (fun _ => True)

/-- R364 to R367: the moves from and to `HI` and `LO`. -/
def Obligations.HiLoMoves : Prop :=
  ∀ (s : State) (r : Reg),
    Writes (.mfhi r) s r s.hi ∧ Writes (.mflo r) s r s.lo ∧
    (2 ≤ s.sinceHiLo → Completes (.mthi r) s fun t => t.hi = s.x r ∧ t.lo = s.lo) ∧
    (2 ≤ s.sinceHiLo → Completes (.mtlo r) s fun t => t.lo = s.x r ∧ t.hi = s.hi)

/-- R368, R503: an instruction that writes `HI` or `LO` is refused as one of the two instructions that follow an
`mfhi` or `mflo`. What counts as an instruction between them is the model's: the count starts at those two, and
every other instruction that completes without a trap adds one, up to two (DESIGN CHOICE, log 32; DEDUCED,
log 53). -/
def Obligations.HiLoSpacing : Prop :=
  ∀ (s t : State) (i : Instr),
    (i.writesHiLo = true → s.sinceHiLo < 2 → exec i s = .refused .hiLoHazard) ∧
    (exec i s = .next t → s.trap = none → t.trap = none →
      t.sinceHiLo = if i.readsHiLo then 0 else min (s.sinceHiLo + 1) 2)

/-! ## Scalar memory -/

/-- R392 to R396: an aligned scalar load that the launch memory and the ordering discipline grant writes the
value of the bytes at `x[rs] + sext(imm)`, sign- or zero-extended. -/
def Obligations.ScalarLoads : Prop :=
  ∀ (s : State) (rt rs : Reg) (imm : BitVec 16),
    let a := trunc32 ((s.x rs).toInt + imm.toInt)
    let Loads := fun (i : Instr) (size : Size) (ext : Extension) =>
      a.toNat % size.bytes = 0 → Grants s ⟨.scalar, .read, byteAddrs a size.bytes⟩ →
        Writes i s rt (itemWord ext s.cfg.endian s.mem a.toNat size)
    Loads (.lb rt imm rs) .byte .sign ∧ Loads (.lbu rt imm rs) .byte .zero ∧
    Loads (.lh rt imm rs) .half .sign ∧ Loads (.lhu rt imm rs) .half .zero ∧
    Loads (.lw rt imm rs) .word .sign

/-- R399 to R401: an aligned scalar store that is granted leaves the low bytes of `x[rt]` at the address. -/
def Obligations.ScalarStores : Prop :=
  ∀ (s : State) (rt rs : Reg) (imm : BitVec 16), s.mem.wf = true →
    let a := trunc32 ((s.x rs).toInt + imm.toInt)
    let Stores := fun (i : Instr) (size : Size) =>
      a.toNat % size.bytes = 0 → Grants s ⟨.scalar, .write, byteAddrs a size.bytes⟩ →
        Completes i s fun t =>
          itemNat s.cfg.endian t.mem a.toNat size.bytes = (s.x rt).toNat % 256 ^ size.bytes
    Stores (.sb rt imm rs) .byte ∧ Stores (.sh rt imm rs) .half ∧ Stores (.sw rt imm rs) .word

/-- R391, R455: a misaligned scalar access raises Address error with its address, and accesses nothing. -/
def Obligations.MisalignedScalarAccessTraps : Prop :=
  ∀ (s : State) (rt rs : Reg) (imm : BitVec 16),
    let a := trunc32 ((s.x rs).toInt + imm.toInt)
    (a.toNat % 2 ≠ 0 →
      Raises (.lh rt imm rs) s .addressErrorLoad (.address a) ∧
      Raises (.lhu rt imm rs) s .addressErrorLoad (.address a) ∧
      Raises (.sh rt imm rs) s .addressErrorStore (.address a)) ∧
    (a.toNat % 4 ≠ 0 →
      Raises (.lw rt imm rs) s .addressErrorLoad (.address a) ∧
      Raises (.ll rt imm rs) s .addressErrorLoad (.address a) ∧
      Raises (.sw rt imm rs) s .addressErrorStore (.address a) ∧
      Raises (.sc rt imm rs) s .addressErrorStore (.address a))

/-- R397, R398, R402, R403: the partial word accesses, byte by byte, in either byte order. With `b` the address
modulo 4, `lwl` and `swl` join byte `3 - j` of the register to the byte at `a + j` (big-endian, `j ≤ 3 - b`) or
`a - j` (little-endian, `j ≤ b`); `lwr` and `swr` join byte `j` to `a - j` (big-endian, `j ≤ b`) or `a + j`
(little-endian, `j ≤ 3 - b`). The other bytes of the destination are kept. -/
def Obligations.PartialWordAccesses : Prop :=
  ∀ (s : State) (rt rs : Reg) (imm : BitVec 16),
    let a := (trunc32 ((s.x rs).toInt + imm.toInt)).toNat
    let b := a % 4
    let leftAddr := fun j => if s.cfg.endian = .big then a + j else a - j
    let rightAddr := fun j => if s.cfg.endian = .big then a - j else a + j
    let leftCount := if s.cfg.endian = .big then 4 - b else b + 1
    let rightCount := if s.cfg.endian = .big then b + 1 else 4 - b
    let left := (List.range leftCount).map leftAddr
    let right := (List.range rightCount).map rightAddr
    (rt ≠ 0 → Grants s ⟨.scalar, .read, left⟩ → Completes (.lwl rt imm rs) s fun t =>
      ∀ j, j < 4 → (t.x rt).extractLsb' (8 * (3 - j)) 8 =
        if j < leftCount then s.mem.read (leftAddr j) else (s.x rt).extractLsb' (8 * (3 - j)) 8) ∧
    (rt ≠ 0 → Grants s ⟨.scalar, .read, right⟩ → Completes (.lwr rt imm rs) s fun t =>
      ∀ j, j < 4 → (t.x rt).extractLsb' (8 * j) 8 =
        if j < rightCount then s.mem.read (rightAddr j) else (s.x rt).extractLsb' (8 * j) 8) ∧
    (s.mem.wf = true → Grants s ⟨.scalar, .write, left⟩ → Completes (.swl rt imm rs) s fun t =>
      ∀ j, j < leftCount → t.mem.read (leftAddr j) = (s.x rt).extractLsb' (8 * (3 - j)) 8) ∧
    (s.mem.wf = true → Grants s ⟨.scalar, .write, right⟩ → Completes (.swr rt imm rs) s fun t =>
      ∀ j, j < rightCount → t.mem.read (rightAddr j) = (s.x rt).extractLsb' (8 * j) 8) ∧
    (Grants s ⟨.scalar, .read, left⟩ → Completes (.lwl 0 imm rs) s fun t => t.x 0 = 0) ∧
    (Grants s ⟨.scalar, .read, right⟩ → Completes (.lwr 0 imm rs) s fun t => t.x 0 = 0)

/-- The pair of `lwl` and `lwr` loads the word at any address, aligned or not, in either byte order (R397, R398):
the use the pair exists for. Big-endian, `lwl` takes the first byte's address and `lwr` the last one's;
little-endian the other way round. The bytes wrap at the top of memory. The destination is not the base, since
the first of the pair would change it. -/
def Obligations.UnalignedLoadPair : Prop :=
  ∀ (s t u : State) (rt rs : Reg) (imm imm' : BitVec 16), rt ≠ 0 → rt ≠ rs → imm'.toInt = imm.toInt + 3 →
    let a := (trunc32 ((s.x rs).toInt + imm.toInt)).toNat
    let left := if s.cfg.endian = .big then imm else imm'
    let right := if s.cfg.endian = .big then imm' else imm
    exec (.lwl rt left rs) s = .next t → exec (.lwr rt right rs) t = .next u →
      ∀ j, j < 4 → (u.x rt).extractLsb' (8 * j) 8 =
        s.mem.read ((a + if s.cfg.endian = .big then 3 - j else j) % 2 ^ 32)

/-- R404, R405: `ll` loads a word and links its address; an `sc` to the linked address stores, writes 1 and
clears the link bit; an `sc` without a link writes 0 and stores nothing; an `sc` to another address than the
linked one is refused. That an `sc` without a link adds no record to the list of R73, since it makes no access, is
the model's reading (DEDUCED, log 55); the refusal is the spec's, taken over (log 29). -/
def Obligations.LoadLinkedStoreConditional : Prop :=
  ∀ (s : State) (rt rs : Reg) (imm : BitVec 16),
    let a := trunc32 ((s.x rs).toInt + imm.toInt)
    a.toNat % 4 = 0 →
    (Grants s ⟨.scalar, .read, byteAddrs a 4⟩ → Completes (.ll rt imm rs) s fun t =>
      (t.x rt = if rt = 0 then 0 else itemWord .sign s.cfg.endian s.mem a.toNat .word) ∧
      t.llBit = true ∧ t.llAddr = a) ∧
    (s.mem.wf = true → s.llBit = true → s.llAddr = a → Grants s ⟨.scalar, .write, byteAddrs a 4⟩ →
      Completes (.sc rt imm rs) s fun t =>
        itemNat s.cfg.endian t.mem a.toNat 4 = (s.x rt).toNat ∧
        (t.x rt = if rt = 0 then 0 else 1) ∧ t.llBit = false) ∧
    (s.llBit = false → Completes (.sc rt imm rs) s fun t =>
      t.x rt = 0 ∧ t.llBit = false ∧ t.mem = s.mem ∧ t.unsynced = s.unsynced) ∧
    (s.llBit = true → s.llAddr ≠ a → exec (.sc rt imm rs) s = .refused .scAddressMismatch)

/-- R73, R74, R406: `sync` empties the list of accesses since the last `sync`; a memory instruction that
completes was granted its access, which conflicts with none of the list when `SYNC_REQUIRED`, and is then added
to the list. -/
def Obligations.OrderingDiscipline : Prop :=
  ∀ s : State,
    Completes .sync s (fun t => t.unsynced = []) ∧
    ∀ (t : State) (i : Instr) (new : AccessRecord), i.memoryAccess s = some new → s.trap = none →
      exec i s = .next t → t.trap = none →
      Grants s new ∧
      (s.cfg.syncRequired = true →
        (∀ old ∈ s.unsynced, (∃ a, a ∈ old.bytes ∧ a ∈ new.bytes) →
          (old.kind = .write ∨ new.kind = .write) → old.unit = .scalar ∧ new.unit = .scalar) ∧
        t.unsynced = s.unsynced ++ [new]) ∧
      (s.cfg.syncRequired = false → t.unsynced = s.unsynced)

/-- How a memory access that passes the instruction's own tests but is not granted stops, for every load and
store: refused for a conflict (R73), refused for a store into the program text (R77), stuck outside the launch
memory or without its permission (R79, R81). The order is the model's (log 25). -/
def Obligations.UngrantedAccessStops : Prop :=
  ∀ (s : State) (rt rs : Reg) (imm : BitVec 16),
    let a := trunc32 ((s.x rs).toInt + imm.toInt)
    let b := a.toNat % 4
    let leftBytes := (List.range (if s.cfg.endian = .big then 4 - b else b + 1)).map fun j =>
      if s.cfg.endian = .big then a.toNat + j else a.toNat - j
    let rightBytes := (List.range (if s.cfg.endian = .big then b + 1 else 4 - b)).map fun j =>
      if s.cfg.endian = .big then a.toNat - j else a.toNat + j
    let Stops := fun (i : Instr) (new : AccessRecord) =>
      (s.unsyncedConflict new = true → exec i s = .refused .unsynchronisedConflict) ∧
      (s.unsyncedConflict new = false → new.kind = .write → (∃ c ∈ new.bytes, s.inText c = true) →
        exec i s = .refused .storeToProgramText) ∧
      (s.unsyncedConflict new = false → (new.kind = .write → ∀ c ∈ new.bytes, s.inText c = false) →
        (∃ c ∈ new.bytes, s.mapped new.kind c = false) → exec i s = .fault .noSuchByte)
    let Loads := fun (i : Instr) (n : Nat) => a.toNat % n = 0 → Stops i ⟨.scalar, .read, byteAddrs a n⟩
    let Stores := fun (i : Instr) (n : Nat) => a.toNat % n = 0 → Stops i ⟨.scalar, .write, byteAddrs a n⟩
    Loads (.lb rt imm rs) 1 ∧ Loads (.lbu rt imm rs) 1 ∧ Loads (.lh rt imm rs) 2 ∧
    Loads (.lhu rt imm rs) 2 ∧ Loads (.lw rt imm rs) 4 ∧ Loads (.ll rt imm rs) 4 ∧
    Stores (.sb rt imm rs) 1 ∧ Stores (.sh rt imm rs) 2 ∧ Stores (.sw rt imm rs) 4 ∧
    (s.llBit = true → s.llAddr = a → Stores (.sc rt imm rs) 4) ∧
    Stops (.lwl rt imm rs) ⟨.scalar, .read, leftBytes⟩ ∧
    Stops (.lwr rt imm rs) ⟨.scalar, .read, rightBytes⟩ ∧
    Stops (.swl rt imm rs) ⟨.scalar, .write, leftBytes⟩ ∧
    Stops (.swr rt imm rs) ⟨.scalar, .write, rightBytes⟩ ∧
    ∀ (i : Instr) (m : VectorAccess), i.vectorAccess = some m → VectorReady i s →
      m.mode.sameRegister = false →
      (∀ k, k < s.vlr.toNat → (s.elementAddr m.mode m.size k).toNat % m.size.bytes = 0) →
      Stops i ⟨.vector, m.kind, s.elementBytes m.mode m.size s.vlr.toNat⟩

/-! ## Branches, jumps and traps -/

/-- R408, R411 to R416, R419 to R424: the conditional branches, outside a delay slot. The target is relative to
the delay slot. -/
def Obligations.ConditionalBranches : Prop :=
  ∀ (s : State) (rs rt : Reg) (imm : BitVec 16), s.inDelaySlot = false →
    let target := trunc32 (s.pc.toNat + 4 + 4 * imm.toInt)
    let a := (s.x rs).toInt
    Branches (.beq rs rt imm) s false (decide (s.x rs = s.x rt)) target ∧
    Branches (.bne rs rt imm) s false (decide (s.x rs ≠ s.x rt)) target ∧
    Branches (.blez rs imm) s false (decide (a ≤ 0)) target ∧
    Branches (.bgtz rs imm) s false (decide (a > 0)) target ∧
    Branches (.bltz rs imm) s false (decide (a < 0)) target ∧
    Branches (.bgez rs imm) s false (decide (a ≥ 0)) target ∧
    Branches (.beql rs rt imm) s true (decide (s.x rs = s.x rt)) target ∧
    Branches (.bnel rs rt imm) s true (decide (s.x rs ≠ s.x rt)) target ∧
    Branches (.blezl rs imm) s true (decide (a ≤ 0)) target ∧
    Branches (.bgtzl rs imm) s true (decide (a > 0)) target ∧
    Branches (.bltzl rs imm) s true (decide (a < 0)) target ∧
    Branches (.bgezl rs imm) s true (decide (a ≥ 0)) target

/-- R408, R417, R418, R425 to R428, R429, R430: the branches and jumps that link write the address after the
delay slot, taken or not; the jumps and their targets. -/
def Obligations.LinksAndJumps : Prop :=
  ∀ (s : State) (rd rs : Reg) (imm : BitVec 16) (target : BitVec 26), s.inDelaySlot = false →
    let T := trunc32 (s.pc.toNat + 4 + 4 * imm.toInt)
    let link := s.pc + 8
    let J := BitVec.ofNat 32 ((s.pc + 4).toNat / 2 ^ 28 * 2 ^ 28 + 4 * target.toNat)
    let a := (s.x rs).toInt
    let Links := fun (i : Instr) (r : Reg) => ∀ t, exec i s = .next t → t.x r = if r = 0 then 0 else link
    (rs ≠ 31 → Branches (.bltzal rs imm) s false (decide (a < 0)) T ∧ Links (.bltzal rs imm) 31) ∧
    (rs ≠ 31 → Branches (.bgezal rs imm) s false (decide (a ≥ 0)) T ∧ Links (.bgezal rs imm) 31) ∧
    (rs ≠ 31 → Branches (.bltzall rs imm) s true (decide (a < 0)) T ∧ Links (.bltzall rs imm) 31) ∧
    (rs ≠ 31 → Branches (.bgezall rs imm) s true (decide (a ≥ 0)) T ∧ Links (.bgezall rs imm) 31) ∧
    Branches (.j target) s false true J ∧
    (Branches (.jal target) s false true J ∧ Links (.jal target) 31) ∧
    Branches (.jr rs) s false true (s.x rs) ∧
    (rd ≠ rs → Branches (.jalr rd rs) s false true (s.x rs) ∧ Links (.jalr rd rs) rd)

/-- R410, R417, R418, R425, R426, R430: a branch or jump in a delay slot has no behaviour, and neither has one
whose link register is its source. -/
def Obligations.ForbiddenBranchesAreRefused : Prop :=
  ∀ (s : State) (i : Instr) (rd : Reg) (imm : BitVec 16),
    (i.isBranch = true → s.inDelaySlot = true → (∀ r, i ≠ .jalr r r) →
      exec i s = .refused .branchInDelaySlot) ∧
    exec (.jalr rd rd) s = .refused .linkRegisterIsSource ∧
    (s.inDelaySlot = false →
      exec (.bltzal 31 imm) s = .refused .linkRegisterIsSource ∧
      exec (.bgezal 31 imm) s = .refused .linkRegisterIsSource ∧
      exec (.bltzall 31 imm) s = .refused .linkRegisterIsSource ∧
      exec (.bgezall 31 imm) s = .refused .linkRegisterIsSource)

/-- R431 to R445, R457 to R459: a conditional trap raises Trap when its condition holds and does nothing else
when it does not; `syscall` and `break` always raise their exceptions. The spec has these instructions from general
knowledge of MIPS-II (PRESUMED, log 46). -/
def Obligations.TrapInstructions : Prop :=
  ∀ (s : State) (rs rt : Reg) (code : BitVec 10) (code20 : BitVec 20) (imm : BitVec 16),
    let Traps := fun (i : Instr) (condition : Prop) =>
      (condition → Raises i s .trap .none) ∧ (¬ condition → Completes i s fun _ => True)
    let a := (s.x rs).toInt
    let b := (s.x rt).toInt
    let u := (s.x rs).toNat
    let v := (s.x rt).toNat
    let z := imm.toInt
    let w := (trunc32 imm.toInt).toNat
    Traps (.tge rs rt code) (a ≥ b) ∧ Traps (.tgeu rs rt code) (u ≥ v) ∧
    Traps (.tlt rs rt code) (a < b) ∧ Traps (.tltu rs rt code) (u < v) ∧
    Traps (.teq rs rt code) (a = b) ∧ Traps (.tne rs rt code) (a ≠ b) ∧
    Traps (.tgei rs imm) (a ≥ z) ∧ Traps (.tgeiu rs imm) (u ≥ w) ∧
    Traps (.tlti rs imm) (a < z) ∧ Traps (.tltiu rs imm) (u < w) ∧
    Traps (.teqi rs imm) (a = z) ∧ Traps (.tnei rs imm) (a ≠ z) ∧
    Raises (.syscall code20) s .systemCall .none ∧ Raises (.brk code20) s .breakpoint .none

/-! ## The prologue of the vector unit and its control registers -/

/-- R100, R452, R451, R453: the checks before a vector instruction, in this order: coprocessor 2 usable, every
vector register present, `vlr` at most 32. -/
def Obligations.VectorPrologueTraps : Prop :=
  ∀ (s : State) (i : Instr), i.isVu = true →
    (s.cu2 = false → Raises i s .coprocessorUnusable (.unit 2)) ∧
    (s.cu2 = true → (∃ j ∈ i.vectorRegisters, s.cfg.nvreg ≤ j.toNat) →
      Raises i s .reservedInstruction (.word (encode i))) ∧
    (s.cu2 = true → (∀ j ∈ i.vectorRegisters, j.toNat < s.cfg.nvreg) → i.runsOverVlr = true →
      32 < s.vlr.toNat → Raises i s .vectorOperation (.word (encode i)))

/-- R453: the causes of a Vector operation exception, all of them and only these: `vlr` above 32 in an instruction
that runs over `vlr` elements; the low eight bits of the sum of `vlr` and the index above 32 in `vext.v`; the low
eight bits of the index 32 or more in `vins.s` and `vext.s`. Nothing is written but the trap record, and an
instruction that runs over `vlr` elements never raises it when `vlr` is 0. -/
def Obligations.VectorOperationCauses : Prop :=
  ∀ (s : State) (i : Instr), s.trap = none → s.cu2 = true →
    (∀ j ∈ i.vectorRegisters, j.toNat < s.cfg.nvreg) →
    let sumExceeds := fun rd : Reg => 32 < (s.vlr.toNat + (s.x rd).toNat) % 256
    let indexExceeds := fun rd : Reg => 32 ≤ (s.x rd).toNat % 256
    let causes := (i.runsOverVlr = true ∧ 32 < s.vlr.toNat) ∨
      (∃ vd vt rd, i = .vextV vd vt rd ∧ 0 < s.vlr.toNat ∧ sumExceeds rd) ∨
      (∃ rt vd rd, (i = .vinsS rt vd rd ∨ i = .vextS rt vd rd) ∧ indexExceeds rd)
    (causes → ∃ r, r.cause = .vectorOperation ∧ exec i s = .next { s with trap := some r }) ∧
    (∀ t r, exec i s = .next t → t.trap = some r → r.cause = .vectorOperation → causes) ∧
    (i.runsOverVlr = true → s.vlr = 0 → ¬ causes)

/-- R33, R121, R122, R124, R126, R127: what `cfvu` reads of each control register, and what `ctvu` writes: the
low eight bits to `vlr`, all 32 bits to the flag registers. A read of `vcount` is a free value (log 14): the
statement says only that the register and the state's `vcount` agree. -/
def Obligations.ControlRegisterMoves : Prop :=
  ∀ (s : State) (rt : Reg), s.cu2 = true →
    Writes (.cfvu rt 0) s rt
      (BitVec.ofNat 32 (s.cfg.vrevImp.toNat * 256 + s.cfg.vrevRev.toNat)) ∧
    Completes (.cfvu rt 1) s (fun t => t.x rt = if rt = 0 then 0 else t.vcount) ∧
    Writes (.cfvu rt 2) s rt (BitVec.ofNat 32 s.vlr.toNat) ∧
    Writes (.cfvu rt 4) s rt s.vcond ∧
    Writes (.cfvu rt 8) s rt s.vovf ∧
    Writes (.cfvu rt 12) s rt s.vsat ∧
    Completes (.ctvu rt 2) s (fun t => t.vlr.toNat = (s.x rt).toNat % 256) ∧
    Completes (.ctvu rt 4) s (fun t => t.vcond = s.x rt) ∧
    Completes (.ctvu rt 8) s (fun t => t.vovf = s.x rt) ∧
    Completes (.ctvu rt 12) s (fun t => t.vsat = s.x rt)

/-- R123, R125: a control register number that is not in Table 1 is unpredictable, and a write of `vrev` or
`vcount` has no effect stated; that the model refuses both follows the spec's decisions D7 and D8 and is its own
choice (DESIGN CHOICE, logs 39 and 40). -/
def Obligations.OtherControlRegistersAreRefused : Prop :=
  ∀ (s : State) (rt : Reg) (cs : CReg), s.cu2 = true →
    (cs ∉ [(0 : CReg), 1, 2, 4, 8, 12] →
      exec (.cfvu rt cs) s = .refused .invalidControlRegister ∧
      exec (.ctvu rt cs) s = .refused .invalidControlRegister) ∧
    (cs ∈ [(0 : CReg), 1] → exec (.ctvu rt cs) s = .refused .readOnlyControlRegister)

/-! ## Insert and extract -/

/-- R132, R133: `vext.v` moves elements `idx` to `idx + vlr - 1` to the front when they are all elements of the
register; it raises Vector operation when the low eight bits of `vlr + idx` exceed 32. Two cases are refused: a sum
that wraps past eight bits (R134, the spec's decision D11, log 19), and an index above 32 when `vlr` is 0 (R133,
decision D12, log 20). -/
def Obligations.ExtractVector : Prop :=
  ∀ (s : State) (vd vt : VReg) (rd : Reg), VectorReady (.vextV vd vt rd) s →
    let idx := (s.x rd).toNat % 256
    let n := s.vlr.toNat
    (n + idx ≤ 32 → Completes (.vextV vd vt rd) s fun t => ElementsAre s t vd fun k => s.v vt (idx + k)) ∧
    (0 < n → 32 < (n + idx) % 256 →
      Raises (.vextV vd vt rd) s .vectorOperation (.word (encode (.vextV vd vt rd)))) ∧
    (0 < n → 32 < n + idx → (n + idx) % 256 ≤ 32 →
      exec (.vextV vd vt rd) s = .refused .extractIndexWrap) ∧
    (n = 0 → 32 < idx → exec (.vextV vd vt rd) s = .refused .extractRangeUnstated)

/-- R131, R132, R135, R136: `vins.s` writes one element and `vext.s` reads one, whatever `vlr` is; an index of 32
or more raises Vector operation. -/
def Obligations.InsertAndExtractScalar : Prop :=
  ∀ (s : State) (rt : Reg) (vd : VReg) (rd : Reg), s.cu2 = true → vd.toNat < s.cfg.nvreg →
    let idx := (s.x rd).toNat % 256
    (idx < 32 → Completes (.vinsS rt vd rd) s fun t =>
      ∀ k, k < 32 → t.v vd k = if vd = 0 then 0 else if k = idx then s.x rt else s.v vd k) ∧
    (idx < 32 → Writes (.vextS rt vd rd) s rt (s.v vd idx)) ∧
    (32 ≤ idx →
      Raises (.vinsS rt vd rd) s .vectorOperation (.word (encode (.vinsS rt vd rd))) ∧
      Raises (.vextS rt vd rd) s .vectorOperation (.word (encode (.vextS rt vd rd))))

/-! ## Vector loads and stores -/

/-- R143, R150 to R154: the unit-stride loads, with the post-increment of the base. -/
def Obligations.UnitStrideLoads : Prop :=
  ∀ (s : State) (vd : VReg) (rd rt : Reg), rd ≠ rt →
    let Loads := fun (i : Instr) (size : Size) (ext : Extension) =>
      VectorReady i s → (s.x rd).toNat % size.bytes = 0 →
      Grants s ⟨.vector, .read, s.elementBytes (.unit rd rt) size s.vlr.toNat⟩ →
      Completes i s fun t => (t.x rd = if rd = 0 then 0 else s.x rd + s.x rt) ∧
        ElementsAre s t vd fun k =>
          itemWord ext s.cfg.endian s.mem (((s.x rd).toNat + k * size.bytes) % 2 ^ 32) size
    Loads (.lbaiV vd rd rt) .byte .sign ∧ Loads (.lhaiV vd rd rt) .half .sign ∧
    Loads (.lwaiV vd rd rt) .word .sign ∧ Loads (.lbuaiV vd rd rt) .byte .zero ∧
    Loads (.lhuaiV vd rd rt) .half .zero

/-- R67, R155 to R164: the indexed and strided loads; the addresses are those of the state before, so the index
register may be the destination (R69). -/
def Obligations.IndexedAndStridedLoads : Prop :=
  ∀ (s : State) (vd vt : VReg) (rd rt : Reg),
    let Loads := fun (i : Instr) (mode : VecMode) (address : Nat → Word) (size : Size) (ext : Extension) =>
      VectorReady i s → (∀ k, k < s.vlr.toNat → (address k).toNat % size.bytes = 0) →
      Grants s ⟨.vector, .read, s.elementBytes mode size s.vlr.toNat⟩ →
      Completes i s fun t =>
        ElementsAre s t vd fun k => itemWord ext s.cfg.endian s.mem (address k).toNat size
    let indexed := fun k : Nat => trunc32 ((s.x rd).toInt + (s.v vt k).toInt)
    let strided := fun k : Nat => trunc32 ((s.x rd).toInt + (s.x rt).toInt * k)
    Loads (.lbxV vd rd vt) (.indexed rd vt) indexed .byte .sign ∧
    Loads (.lhxV vd rd vt) (.indexed rd vt) indexed .half .sign ∧
    Loads (.lwxV vd rd vt) (.indexed rd vt) indexed .word .sign ∧
    Loads (.lbuxV vd rd vt) (.indexed rd vt) indexed .byte .zero ∧
    Loads (.lhuxV vd rd vt) (.indexed rd vt) indexed .half .zero ∧
    Loads (.lbstV vd rd rt) (.strided rd rt) strided .byte .sign ∧
    Loads (.lhstV vd rd rt) (.strided rd rt) strided .half .sign ∧
    Loads (.lwstV vd rd rt) (.strided rd rt) strided .word .sign ∧
    Loads (.lbustV vd rd rt) (.strided rd rt) strided .byte .zero ∧
    Loads (.lhustV vd rd rt) (.strided rd rt) strided .half .zero

/-- R70, R143, R165 to R167: the unit-stride stores leave every element below `vlr` at its place; elements of a
unit-stride store never overlap. -/
def Obligations.UnitStrideStores : Prop :=
  ∀ (s : State) (vd : VReg) (rd rt : Reg), s.mem.wf = true → rd ≠ rt →
    let Stores := fun (i : Instr) (size : Size) =>
      VectorReady i s → (s.x rd).toNat % size.bytes = 0 →
      Grants s ⟨.vector, .write, s.elementBytes (.unit rd rt) size s.vlr.toNat⟩ →
      Completes i s fun t => (t.x rd = if rd = 0 then 0 else s.x rd + s.x rt) ∧
        ∀ k, k < s.vlr.toNat →
          itemNat s.cfg.endian t.mem (((s.x rd).toNat + k * size.bytes) % 2 ^ 32) size.bytes =
            (s.v vd k).toNat % 256 ^ size.bytes
    Stores (.sbaiV vd rd rt) .byte ∧ Stores (.shaiV vd rd rt) .half ∧ Stores (.swaiV vd rd rt) .word

/-- R70, R168 to R173: in an indexed or strided store every byte stored to ends with the byte of some one of the
elements that write it; which one, where elements overlap, is not determined. -/
def Obligations.IndexedAndStridedStores : Prop :=
  ∀ (s : State) (vd vt : VReg) (rd rt : Reg), s.mem.wf = true →
    let Stores := fun (i : Instr) (mode : VecMode) (address : Nat → Word) (size : Size) =>
      VectorReady i s → (∀ k, k < s.vlr.toNat → (address k).toNat % size.bytes = 0) →
      Grants s ⟨.vector, .write, s.elementBytes mode size s.vlr.toNat⟩ →
      Completes i s fun t =>
        ∀ k j, k < s.vlr.toNat → j < size.bytes →
          ∃ k' j', k' < s.vlr.toNat ∧ j' < size.bytes ∧
            (address k').toNat + j' = (address k).toNat + j ∧
            t.mem.read ((address k).toNat + j) = (s.v vd k').extractLsb'
              (8 * if s.cfg.endian = .big then size.bytes - 1 - j' else j') 8
    let indexed := fun k : Nat => trunc32 ((s.x rd).toInt + (s.v vt k).toInt)
    let strided := fun k : Nat => trunc32 ((s.x rd).toInt + (s.x rt).toInt * k)
    Stores (.sbxV vd rd vt) (.indexed rd vt) indexed .byte ∧
    Stores (.shxV vd rd vt) (.indexed rd vt) indexed .half ∧
    Stores (.swxV vd rd vt) (.indexed rd vt) indexed .word ∧
    Stores (.sbstV vd rd rt) (.strided rd rt) strided .byte ∧
    Stores (.shstV vd rd rt) (.strided rd rt) strided .half ∧
    Stores (.swstV vd rd rt) (.strided rd rt) strided .word

/-- R65, R82, R144, R454: a vector access of halfwords or words at a misaligned address raises Vector address:
for the unit-stride forms the base decides and nothing changes; for the others any element address below `vlr`
does. The base is not post-incremented. With `vlr = 0` a unit-stride access at a misaligned base is refused (R144,
the spec's decision D12, log 21). -/
def Obligations.VectorAddressTraps : Prop :=
  ∀ (s : State) (vd vt : VReg) (rd rt : Reg),
    let Unit := fun (i : Instr) (size : Size) =>
      VectorReady i s → rd ≠ rt → (s.x rd).toNat % size.bytes ≠ 0 →
        if s.vlr = 0 then exec i s = .refused .emptyAccessMisaligned
        else Raises i s .vectorAddress (.word (encode i))
    let Other := fun (i : Instr) (address : Nat → Word) (size : Size) =>
      VectorReady i s → (∃ k, k < s.vlr.toNat ∧ (address k).toNat % size.bytes ≠ 0) →
        ∃ t r, exec i s = .next t ∧ t.trap = some r ∧ r.cause = .vectorAddress ∧
          r.info = .word (encode i) ∧ ∀ q, t.x q = s.x q
    let indexed := fun k : Nat => trunc32 ((s.x rd).toInt + (s.v vt k).toInt)
    let strided := fun k : Nat => trunc32 ((s.x rd).toInt + (s.x rt).toInt * k)
    Unit (.lhaiV vd rd rt) .half ∧ Unit (.lwaiV vd rd rt) .word ∧ Unit (.lhuaiV vd rd rt) .half ∧
    Unit (.shaiV vd rd rt) .half ∧ Unit (.swaiV vd rd rt) .word ∧
    Other (.lhxV vd rd vt) indexed .half ∧ Other (.lwxV vd rd vt) indexed .word ∧
    Other (.lhuxV vd rd vt) indexed .half ∧ Other (.shxV vd rd vt) indexed .half ∧
    Other (.swxV vd rd vt) indexed .word ∧
    Other (.lhstV vd rd rt) strided .half ∧ Other (.lwstV vd rd rt) strided .word ∧
    Other (.lhustV vd rd rt) strided .half ∧ Other (.shstV vd rd rt) strided .half ∧
    Other (.swstV vd rd rt) strided .word

/-- R145, R505: an auto-increment instruction whose base and increment registers are the same is undefined; that
the model refuses it follows the spec's decision D26 and is its own choice (DESIGN CHOICE, log 28). -/
def Obligations.AutoIncrementSameRegisterIsRefused : Prop :=
  ∀ (s : State) (vd : VReg) (rd : Reg), s.cu2 = true → vd.toNat < s.cfg.nvreg → s.vlr.toNat ≤ 32 →
    ∀ i ∈ [Instr.lbaiV vd rd rd, .lhaiV vd rd rd, .lwaiV vd rd rd, .lbuaiV vd rd rd, .lhuaiV vd rd rd,
        .sbaiV vd rd rd, .shaiV vd rd rd, .swaiV vd rd rd],
      exec i s = .refused .autoIncrementSameRegister

/-! ## Vector integer instructions -/

/-- R188 to R195, R198, R199, R203 to R214: the vector logical, unsigned arithmetic and shift instructions,
element by element. -/
def Obligations.VectorIntegerResults : Prop :=
  ∀ (s : State) (vw vd vt : VReg) (rt : Reg),
    let x := s.x rt
    let a := fun k => s.v vd k
    let b := fun k => s.v vt k
    let left := fun (u w : Word) => BitVec.ofNat 32 (u.toNat * 2 ^ (w.toNat % 32))
    let rightZ := fun (u w : Word) => BitVec.ofNat 32 (u.toNat / 2 ^ (w.toNat % 32))
    let rightS := fun (u w : Word) => trunc32 (u.toInt / 2 ^ (w.toNat % 32))
    VectorWrites (.andVV vw vd vt) s vw (fun k => a k &&& b k) ∧
    VectorWrites (.andVS vw vd rt) s vw (fun k => a k &&& x) ∧
    VectorWrites (.orVV vw vd vt) s vw (fun k => a k ||| b k) ∧
    VectorWrites (.orVS vw vd rt) s vw (fun k => a k ||| x) ∧
    VectorWrites (.xorVV vw vd vt) s vw (fun k => a k ^^^ b k) ∧
    VectorWrites (.xorVS vw vd rt) s vw (fun k => a k ^^^ x) ∧
    VectorWrites (.norVV vw vd vt) s vw (fun k => ~~~(a k ||| b k)) ∧
    VectorWrites (.norVS vw vd rt) s vw (fun k => ~~~(a k ||| x)) ∧
    VectorWrites (.adduVV vw vd vt) s vw (fun k => trunc32 ((a k).toInt + (b k).toInt)) ∧
    VectorWrites (.adduVS vw vd rt) s vw (fun k => trunc32 ((a k).toInt + x.toInt)) ∧
    VectorWrites (.subuVV vw vd vt) s vw (fun k => trunc32 ((a k).toInt - (b k).toInt)) ∧
    VectorWrites (.subuVS vw vd rt) s vw (fun k => trunc32 ((a k).toInt - x.toInt)) ∧
    VectorWrites (.subuSV vw rt vd) s vw (fun k => trunc32 (x.toInt - (a k).toInt)) ∧
    VectorWrites (.sllvVV vw vd vt) s vw (fun k => left (a k) (b k)) ∧
    VectorWrites (.sllvVS vw vd rt) s vw (fun k => left (a k) x) ∧
    VectorWrites (.sllvSV vw rt vd) s vw (fun k => left x (a k)) ∧
    VectorWrites (.sravVV vw vd vt) s vw (fun k => rightS (a k) (b k)) ∧
    VectorWrites (.sravVS vw vd rt) s vw (fun k => rightS (a k) x) ∧
    VectorWrites (.sravSV vw rt vd) s vw (fun k => rightS x (a k)) ∧
    VectorWrites (.srlvVV vw vd vt) s vw (fun k => rightZ (a k) (b k)) ∧
    VectorWrites (.srlvVS vw vd rt) s vw (fun k => rightZ (a k) x) ∧
    VectorWrites (.srlvSV vw rt vd) s vw (fun k => rightZ x (a k))

/-- R182, R183, R196, R197, R200 to R202: signed add and subtract write the wrapped result and set the sticky
overflow bit of every element below `vlr` whose exact result is no signed 32-bit number; no bit is cleared and
nothing is raised. -/
def Obligations.VectorOverflow : Prop :=
  ∀ (s : State) (vw vd vt : VReg) (rt : Reg),
    let Ends := fun (i : Instr) (exact : Nat → Int) =>
      VectorReady i s → Completes i s fun t =>
        (ElementsAre s t vw fun k => trunc32 (exact k)) ∧
        ∀ k, k < 32 → (t.vovf.getLsbD k = true ↔ s.vovf.getLsbD k = true ∨
          (k < s.vlr.toNat ∧ ¬ (-(2 ^ 31) ≤ exact k ∧ exact k < 2 ^ 31)))
    Ends (.addVV vw vd vt) (fun k => (s.v vd k).toInt + (s.v vt k).toInt) ∧
    Ends (.addVS vw vd rt) (fun k => (s.v vd k).toInt + (s.x rt).toInt) ∧
    Ends (.subVV vw vd vt) (fun k => (s.v vd k).toInt - (s.v vt k).toInt) ∧
    Ends (.subVS vw vd rt) (fun k => (s.v vd k).toInt - (s.x rt).toInt) ∧
    Ends (.subSV vw rt vd) (fun k => (s.x rt).toInt - (s.v vd k).toInt)

/-- R220, R226 to R233: the set instructions write 1 or 0 to a vector register. -/
def Obligations.VectorSetResults : Prop :=
  ∀ (s : State) (vw vd vt : VReg) (rt : Reg),
    let x := s.x rt
    let a := fun k => s.v vd k
    let b := fun k => s.v vt k
    VectorWrites (.sltVV vw vd vt) s vw (fun k => if (a k).toInt < (b k).toInt then 1 else 0) ∧
    VectorWrites (.sltVS vw vd rt) s vw (fun k => if (a k).toInt < x.toInt then 1 else 0) ∧
    VectorWrites (.sltSV vw rt vd) s vw (fun k => if x.toInt < (a k).toInt then 1 else 0) ∧
    VectorWrites (.sltuVV vw vd vt) s vw (fun k => if (a k).toNat < (b k).toNat then 1 else 0) ∧
    VectorWrites (.sltuVS vw vd rt) s vw (fun k => if (a k).toNat < x.toNat then 1 else 0) ∧
    VectorWrites (.sltuSV vw rt vd) s vw (fun k => if x.toNat < (a k).toNat then 1 else 0) ∧
    VectorWrites (.seqVV vw vd vt) s vw (fun k => if a k = b k then 1 else 0) ∧
    VectorWrites (.seqVS vw vd rt) s vw (fun k => if a k = x then 1 else 0)

/-- R221, R234 to R241: the flag instructions write bits 0 to `vlr - 1` of `vcond` and leave the others. -/
def Obligations.VectorFlagResults : Prop :=
  ∀ (s : State) (vd vt : VReg) (rt : Reg),
    let x := s.x rt
    let a := fun k => s.v vd k
    let b := fun k => s.v vt k
    let Flags := fun (i : Instr) (p : Nat → Prop) =>
      VectorReady i s → Completes i s fun t => ∀ k, k < 32 →
        (t.vcond.getLsbD k = true ↔ if k < s.vlr.toNat then p k else s.vcond.getLsbD k = true)
    Flags (.fltVV vd vt) (fun k => (a k).toInt < (b k).toInt) ∧
    Flags (.fltVS vd rt) (fun k => (a k).toInt < x.toInt) ∧
    Flags (.fltSV rt vd) (fun k => x.toInt < (a k).toInt) ∧
    Flags (.fltuVV vd vt) (fun k => (a k).toNat < (b k).toNat) ∧
    Flags (.fltuVS vd rt) (fun k => (a k).toNat < x.toNat) ∧
    Flags (.fltuSV rt vd) (fun k => x.toNat < (a k).toNat) ∧
    Flags (.feqVV vd vt) (fun k => a k = b k) ∧
    Flags (.feqVS vd rt) (fun k => a k = x)

/-- R223, R242 to R253: the conditional moves write an element where the condition holds of the condition
vector's element, taken as signed, and keep it elsewhere. -/
def Obligations.ConditionalMoves : Prop :=
  ∀ (s : State) (vw vd vt : VReg) (rt : Reg),
    let Moves := fun (i : Instr) (p : Int → Prop) (value : Nat → Word) =>
      VectorReady i s → Completes i s fun t => ∀ k, k < 32 →
        (k < s.vlr.toNat → p (s.v vd k).toInt → t.v vw k = if vw = 0 then 0 else value k) ∧
        (¬ (k < s.vlr.toNat ∧ p (s.v vd k).toInt) → t.v vw k = s.v vw k)
    let b := fun k => s.v vt k
    let x := fun _ : Nat => s.x rt
    Moves (.cmvnezVV vw vd vt) (fun z => z ≠ 0) b ∧ Moves (.cmvgezVV vw vd vt) (fun z => z ≥ 0) b ∧
    Moves (.cmvlezVV vw vd vt) (fun z => z ≤ 0) b ∧ Moves (.cmveqzVV vw vd vt) (fun z => z = 0) b ∧
    Moves (.cmvltzVV vw vd vt) (fun z => z < 0) b ∧ Moves (.cmvgtzVV vw vd vt) (fun z => z > 0) b ∧
    Moves (.cmvnezVS vw vd rt) (fun z => z ≠ 0) x ∧ Moves (.cmvgezVS vw vd rt) (fun z => z ≥ 0) x ∧
    Moves (.cmvlezVS vw vd rt) (fun z => z ≤ 0) x ∧ Moves (.cmveqzVS vw vd rt) (fun z => z = 0) x ∧
    Moves (.cmvltzVS vw vd rt) (fun z => z < 0) x ∧ Moves (.cmvgtzVS vw vd rt) (fun z => z > 0) x

/-- R224: with register 0 as the condition vector a conditional move is unconditional: where the condition holds
of zero it moves the first `vlr` elements, a vector or a scalar value broadcast; where it does not, it moves
none. -/
def Obligations.UnconditionalMoves : Prop :=
  ∀ (s : State) (vw vt : VReg) (rt : Reg),
    let vector := fun k => s.v vt k
    let scalar := fun _ : Nat => s.x rt
    let kept := fun k => s.v vw k
    VectorWrites (.cmveqzVV vw 0 vt) s vw vector ∧ VectorWrites (.cmveqzVS vw 0 rt) s vw scalar ∧
    VectorWrites (.cmvgezVV vw 0 vt) s vw vector ∧ VectorWrites (.cmvgezVS vw 0 rt) s vw scalar ∧
    VectorWrites (.cmvlezVV vw 0 vt) s vw vector ∧ VectorWrites (.cmvlezVS vw 0 rt) s vw scalar ∧
    VectorWrites (.cmvnezVV vw 0 vt) s vw kept ∧ VectorWrites (.cmvnezVS vw 0 rt) s vw kept ∧
    VectorWrites (.cmvltzVV vw 0 vt) s vw kept ∧ VectorWrites (.cmvltzVS vw 0 rt) s vw kept ∧
    VectorWrites (.cmvgtzVV vw 0 vt) s vw kept ∧ VectorWrites (.cmvgtzVS vw 0 rt) s vw kept

/-! ## Fixed point -/

/-- R263, R265, R269, R275 to R284: with a configuration word of the architected behaviour (unused bits zero, and
`clipam` not `11` unless the run parameter `CLIPAM3` says that `11` clips to 16 bits), each fixed-point instruction
writes `FxAddSub` or `FxMul` of its operands to every element below `vlr`, and sets the sticky saturation bit of
those that clipping changed. -/
def Obligations.FixedPointResults : Prop :=
  ∀ (s : State) (vw vd vt : VReg) (rt rd : Reg),
    let cfg := s.x rd
    let Ends := fun (i : Instr) (op : FxOp) (a b : Nat → Word) =>
      VectorReady i s → cfg &&& 0xFFFFF060 = 0 →
      (cfg.extractLsb' 7 2 ≠ 0b11#2 ∨ s.cfg.clipam3 = .clip16) →
      Completes i s fun t =>
        (ElementsAre s t vw fun k => (fxArch op cfg (a k) (b k)).value) ∧
        ∀ k, k < 32 → (t.vsat.getLsbD k = true ↔ s.vsat.getLsbD k = true ∨
          (k < s.vlr.toNat ∧ (fxArch op cfg (a k) (b k)).flag = true))
    let d := fun k => s.v vd k
    let e := fun k => s.v vt k
    let x := fun _ : Nat => s.x rt
    Ends (.fxaddVV vw vd vt rd) .add d e ∧ Ends (.fxaddVS vw vd rt rd) .add d x ∧
    Ends (.fxaddSV vw rt vd rd) .add x d ∧
    Ends (.fxsubVV vw vd vt rd) .sub d e ∧ Ends (.fxsubVS vw vd rt rd) .sub d x ∧
    Ends (.fxsubSV vw rt vd rd) .sub x d ∧
    Ends (.fxmulVV vw vd vt rd) .mul d e ∧ Ends (.fxmulVS vw vd rt rd) .mul d x ∧
    Ends (.fxmulSV vw rt vd rd) .mul x d

/-- R264, R266 to R272: the pipeline rounds as Table 9 and the stage rules say, for every configuration word. The
exact value is `N / 2^sham`, where `fxadd` and `fxsub` keep only the low 32 bits of `A` shifted left (R266). It is
rounded, by `shrst`, `shrnr`, `shlnr`: to the nearest integer with ties to even (`000`), toward minus infinity
(`X11`), to the nearest with ties upward (`X10`), by jamming (`101`); in the two combinations that Table 9 does not
name, downward and then, where `sham` is not 0 and nothing is lost, to the even integer at or below (`001`), and by
jamming the sum with the rounding bit (`100`). Then it is clipped to the range that `clipam` names (`11` is the 16
bits of T0, R263), and the flag says whether clipping changed it. -/
def Obligations.FixedPointRounding : Prop :=
  ∀ (op : FxOp) (cfg a b : Word),
    let sham := cfg.toNat % 32
    let clipam := cfg.toNat / 128 % 4
    let shlnr := cfg.getLsbD 9
    let shrnr := cfg.getLsbD 10
    let shrst := cfg.getLsbD 11
    let shifted := (trunc32 (a.toInt * 2 ^ sham)).toInt
    let N : Int := match op with
      | .add => shifted + b.toInt
      | .sub => shifted - b.toInt
      | .mul => (a.setWidth 16).toInt * (b.setWidth 16).toInt
    let bound : Int := if clipam = 0 then 2 ^ 31 else if clipam = 1 then 2 ^ 7 else 2 ^ 15
    let jam := fun z : Int => if z % 2 ^ sham = 0 then z / 2 ^ sham else 2 * (z / 2 ^ sham / 2) + 1
    let rounded := fun r : Int =>
      (shlnr = false → shrnr = false → shrst = false →
        2 * |r * 2 ^ sham - N| < 2 ^ sham ∨ (2 * |r * 2 ^ sham - N| = 2 ^ sham ∧ r % 2 = 0)) ∧
      (shlnr = true → shrnr = true → r = N / 2 ^ sham) ∧
      (shlnr = false → shrnr = true → r = (2 * N + 2 ^ sham) / 2 ^ (sham + 1)) ∧
      (shlnr = true → shrnr = false → shrst = true → r = jam N) ∧
      (shlnr = true → shrnr = false → shrst = false →
        r = if sham ≠ 0 ∧ N % 2 ^ sham = 0 then 2 * (N / 2 ^ sham / 2) else N / 2 ^ sham) ∧
      (shlnr = false → shrnr = false → shrst = true →
        r = if sham = 0 then N else jam (N + 2 ^ (sham - 1)))
    ∃ r : Int, rounded r ∧
      fxArch op cfg a b = ⟨true, trunc32 (max (-bound) (min r (bound - 1))),
        decide (r < -bound ∨ bound - 1 < r)⟩

/-- R292: with every T0-only field zero, the T0 pipelines are the architected ones, whatever the readings are of
the points that Appendix A leaves open (R315, log 18). -/
def Obligations.T0PipelineReducesToArchitected : Prop :=
  ∀ (p : T0Readings) (f : FxFields) (e : T0Extra) (a b : Word), f.sham < 32 →
    e.lufunc = 0 → e.shlza = false → e.shlv = false → e.au = false → e.bu = false → e.shrv = false →
    e.sepsham = false → e.shrl = false → e.lures = false → e.noclip = false → e.wcond = 0 →
    t0FxAddSub p false f e a b = fxFinish f (fxAddOut .add f a b) ∧
    t0FxAddSub p true f e a b = fxFinish f (fxAddOut .sub f a b) ∧
    t0FxMul p f e a b = fxFinish f (fxAddOut .mul f a b)

/-- What the configuration word of a fixed-point instruction may stop (R262, R263, R275, R312, R485). With `vlr = 0` it
is not examined. With `vlr` above 0 an unused bit is refused where `T0_CFG_BITS` says so, `clipam = 11` where `CLIPAM3`
says so, and on an implementation that honours the T0-only bits a multiply with a field set that must be zero. Every
other word lets the instruction complete: the elements from `vlr` on and the other bits of `vsat` are kept, and no bit
of `vsat` is cleared. Among those words are `clipam = 11` and unused bits with their parameter at `unpredictable`, where
the elements below `vlr` and their bits of `vsat` are open: a value of the parameters that is the model's own (logs 16
and 17); how T0 reads its fields is open too (logs 17 and 18). -/
def Obligations.FixedPointGoesOnUnlessRefused : Prop :=
  ∀ (s : State) (vw vd vt : VReg) (rt rd : Reg),
    let GoesOn := fun i : Instr => Completes i s fun t =>
      (∀ k, s.vlr.toNat ≤ k → t.v vw k = s.v vw k) ∧
      ∀ k, k < 32 → (s.vsat.getLsbD k = true → t.vsat.getLsbD k = true) ∧
        (s.vlr.toNat ≤ k → t.vsat.getLsbD k = s.vsat.getLsbD k)
    let cfg := s.x rd
    let unused := cfg &&& 0xFFFFF060 ≠ 0
    let clip3 := cfg.extractLsb' 7 2 = 0b11#2
    let e := Config.t0Extra cfg
    let mustBeZero := e.shlza = true ∨ e.shlv = true ∨ e.shrv = true ∨ e.lures = true
    let Ends := fun (mul : Prop) (i : Instr) => VectorReady i s →
      (s.vlr = 0 → GoesOn i) ∧
      (s.vlr ≠ 0 → unused → s.cfg.t0CfgBits = .refuse → exec i s = .refused .unusedConfigurationBits) ∧
      (s.vlr ≠ 0 → ¬ unused → clip3 → s.cfg.clipam3 = .refuse → exec i s = .refused .clipAmount3) ∧
      (s.vlr ≠ 0 → unused → s.cfg.t0CfgBits = .honoured → mul → mustBeZero →
        exec i s = .refused .t0FieldMustBeZero) ∧
      (unused → s.cfg.t0CfgBits = .honoured → ¬ (mul ∧ mustBeZero) → GoesOn i) ∧
      (unused → s.cfg.t0CfgBits = .unpredictable → GoesOn i) ∧
      (¬ unused → ¬ clip3 ∨ s.cfg.clipam3 ≠ .refuse → GoesOn i)
    (∀ i ∈ [Instr.fxaddVV vw vd vt rd, .fxaddVS vw vd rt rd, .fxaddSV vw rt vd rd, .fxsubVV vw vd vt rd,
        .fxsubVS vw vd rt rd, .fxsubSV vw rt vd rd], Ends False i) ∧
    ∀ i ∈ [Instr.fxmulVV vw vd vt rd, .fxmulVS vw vd rt rd, .fxmulSV vw rt vd rd], Ends True i

end Statements
end

