-- ==== Sys2Proof/Laws/Arith.lean ====
section
/-! SUPPORT. The arithmetic of words as integers: sums, differences, shifts and immediates that the meanings
compute with bit-vector operations, as the integer formulas that the rules print (R11, R331, R335). -/

namespace Sys2Proof.Machine

theorem trunc32_add (a b : Word) : trunc32 (a.toInt + b.toInt) = a + b := by
  apply BitVec.eq_of_toInt_eq
  simp [trunc32, BitVec.toInt_add]

theorem trunc32_sub (a b : Word) : trunc32 (a.toInt - b.toInt) = a - b := by
  apply BitVec.eq_of_toInt_eq
  simp [trunc32, BitVec.toInt_sub]

theorem toInt_signExt16 (imm : BitVec 16) : (signExt16 imm).toInt = imm.toInt := by
  simp [signExt16, BitVec.toInt_signExtend_of_le]

/-- A signed 32-bit number is the signed value of its word. -/
theorem toInt_trunc32 (z : Int) (h1 : -(2 ^ 31) ≤ z) (h2 : z < 2 ^ 31) : (trunc32 z).toInt = z := by
  simp only [trunc32, BitVec.toInt_ofInt, Int.bmod]
  norm_num at h1 h2 ⊢
  split_ifs <;> omega

theorem trunc32_imm (imm : BitVec 16) : trunc32 imm.toInt = signExt16 imm := by
  have h1 := @BitVec.toInt_lt 16 imm
  have h2 := @BitVec.le_toInt 16 imm
  norm_num at h1 h2
  apply BitVec.eq_of_toInt_eq
  rw [toInt_signExt16, toInt_trunc32 _ (by norm_num; omega) (by norm_num; omega)]

/-- The effective address and the immediate sums (R391). -/
theorem trunc32_add_imm (a : Word) (imm : BitVec 16) :
    trunc32 (a.toInt + imm.toInt) = a + signExt16 imm := by
  rw [← toInt_signExt16, trunc32_add]

theorem boolWord_decide (p : Prop) [Decidable p] : boolWord (decide p) = if p then 1 else 0 := by
  simp [boolWord]

theorem ofNat_mul_two_pow (a : Word) (n : Nat) : BitVec.ofNat 32 (a.toNat * 2 ^ n) = a <<< n := by
  apply BitVec.eq_of_toNat_eq
  simp [Nat.shiftLeft_eq]

theorem ofNat_div_two_pow (a : Word) (n : Nat) : BitVec.ofNat 32 (a.toNat / 2 ^ n) = a >>> n := by
  apply BitVec.eq_of_toNat_eq
  have : a.toNat / 2 ^ n < 2 ^ 32 := lt_of_le_of_lt (Nat.div_le_self _ _) a.isLt
  rw [BitVec.toNat_ofNat, Nat.mod_eq_of_lt this, BitVec.toNat_ushiftRight, Nat.shiftRight_eq_div_pow]

theorem trunc32_div_two_pow (a : Word) (n : Nat) : trunc32 (a.toInt / 2 ^ n) = a.sshiftRight n := by
  apply BitVec.eq_of_toInt_eq
  have h1 := @BitVec.toInt_lt 32 a
  have h2 := @BitVec.le_toInt 32 a
  have hp : (0 : Int) < 2 ^ n := by positivity
  have hq : (1 : Int) ≤ 2 ^ n := one_le_pow₀ (by norm_num)
  norm_num at h1 h2
  rw [BitVec.toInt_sshiftRight, Int.shiftRight_eq_div_pow]
  push_cast
  refine toInt_trunc32 _ (Int.le_ediv_of_mul_le hp ?_) (Int.ediv_lt_of_lt_mul hp ?_)
  · norm_num
    nlinarith
  · norm_num
    nlinarith

theorem toNat_mod_32 (w : Word) : w.toNat % 32 = shiftAmount w := by
  simp [shiftAmount]

theorem ofNat_toNat_imm (imm : BitVec 16) : BitVec.ofNat 32 imm.toNat = zeroExt16 imm := by
  apply BitVec.eq_of_toNat_eq
  simp [zeroExt16]

theorem ofNat_upper16 (imm : BitVec 16) : BitVec.ofNat 32 (imm.toNat * 2 ^ 16) = upper16 imm := by
  apply BitVec.eq_of_toNat_eq
  have := imm.isLt
  have h : (imm ++ 0#16).toNat = imm.toNat * 65536 := by
    rw [BitVec.toNat_append]
    simp [Nat.shiftLeft_eq]
  rw [upper16, h, BitVec.toNat_ofNat]
  omega

/-- Signed overflow is an exact result outside the signed 32-bit numbers (R182). -/
theorem addOverflows_iff (a b : Word) :
    addOverflows a b = true ↔ ¬ (-(2 ^ 31) ≤ a.toInt + b.toInt ∧ a.toInt + b.toInt < 2 ^ 31) := by
  simp only [addOverflows, fitsSigned32, Bool.not_eq_true', Bool.and_eq_false_iff,
    decide_eq_false_iff_not]
  omega

theorem subOverflows_iff (a b : Word) :
    subOverflows a b = true ↔ ¬ (-(2 ^ 31) ≤ a.toInt - b.toInt ∧ a.toInt - b.toInt < 2 ^ 31) := by
  simp only [subOverflows, fitsSigned32, Bool.not_eq_true', Bool.and_eq_false_iff,
    decide_eq_false_iff_not]
  omega

theorem trunc32_two_pow (n : Nat) : trunc32 (2 ^ n) = BitVec.twoPow 32 n := by
  apply BitVec.eq_of_toNat_eq
  have : (2 : Int) ^ n = ((2 ^ n : Nat) : Int) := by push_cast; rfl
  rw [trunc32, this, BitVec.ofInt_natCast, BitVec.toNat_ofNat, BitVec.toNat_twoPow]

theorem trunc32_mul_two_pow (z : Int) (n : Nat) : trunc32 (z * 2 ^ n) = trunc32 z <<< n := by
  rw [BitVec.shiftLeft_eq_mul_twoPow, ← trunc32_two_pow, trunc32, trunc32, trunc32, BitVec.ofInt_mul]

/-- ORing the round bit below a shifted operand adds it (R266, R296). -/
theorem trunc32_or_half (z : Int) (n : Nat) (hn : 0 < n) :
    trunc32 (z * 2 ^ n) ||| trunc32 (2 ^ (n - 1)) = trunc32 (z * 2 ^ n + 2 ^ (n - 1)) := by
  rw [show trunc32 (z * 2 ^ n + 2 ^ (n - 1)) = trunc32 (z * 2 ^ n) + trunc32 (2 ^ (n - 1)) from
    BitVec.ofInt_add .., trunc32_mul_two_pow, trunc32_two_pow]
  symm
  apply BitVec.add_eq_or_of_and_eq_zero
  ext i hi
  simp only [BitVec.getElem_and, BitVec.getElem_shiftLeft, BitVec.getElem_twoPow, BitVec.getElem_zero]
  rcases Nat.lt_or_ge i n with h | h
  · simp [h]
  · have : i ≠ n - 1 := by omega
    simp [this]

/-- The left shifter without the T0-only bits adds 1/2 LSB to the shifted operand (R266, R296). -/
theorem t0ShlOut_architected (p : T0Readings) (f : FxFields) (e : T0Extra) (a luout : Word)
    (hz : e.shlza = false) (hv : e.shlv = false) :
    t0ShlOut p f e a luout = trunc32 (a.toInt * 2 ^ f.sham + fxHalf f) := by
  simp only [t0ShlOut, t0Half, fxHalf, hz, hv]
  by_cases h : (!f.shlnr && decide (1 ≤ f.sham)) = true
  · have hn : 0 < f.sham := by simp at h; omega
    simp [h, trunc32_or_half _ _ hn]
  · simp [h, trunc32]

end Sys2Proof.Machine
end

