-- ==== Sys2Proof/Laws/Decode.lean ====
section
/-! SUPPORT. The fields of the words that the encoder builds, one lemma for each format and field: with them
`decodeWord (encode i)` is computed by `simp` without unfolding a format. -/

namespace Sys2Proof

@[simp] theorem opcodeField_rWord (rs rt rd sa : BitVec 5) (funct : BitVec 6) :
    opcodeField (rWord rs rt rd sa funct) = 0b000000#6 := by
  apply BitVec.eq_of_getLsbD_eq
  intro i hi
  simp only [opcodeField, rWord, BitVec.getLsbD_extractLsb', BitVec.getLsbD_append]
  interval_cases i <;> simp

@[simp] theorem rsField_rWord (rs rt rd sa : BitVec 5) (funct : BitVec 6) :
    rsField (rWord rs rt rd sa funct) = rs := by
  apply BitVec.eq_of_getLsbD_eq
  intro i hi
  simp only [rsField, rWord, BitVec.getLsbD_extractLsb', BitVec.getLsbD_append]
  interval_cases i <;> simp

@[simp] theorem rtField_rWord (rs rt rd sa : BitVec 5) (funct : BitVec 6) :
    rtField (rWord rs rt rd sa funct) = rt := by
  apply BitVec.eq_of_getLsbD_eq
  intro i hi
  simp only [rtField, rWord, BitVec.getLsbD_extractLsb', BitVec.getLsbD_append]
  interval_cases i <;> simp

@[simp] theorem rdField_rWord (rs rt rd sa : BitVec 5) (funct : BitVec 6) :
    rdField (rWord rs rt rd sa funct) = rd := by
  apply BitVec.eq_of_getLsbD_eq
  intro i hi
  simp only [rdField, rWord, BitVec.getLsbD_extractLsb', BitVec.getLsbD_append]
  interval_cases i <;> simp

@[simp] theorem saField_rWord (rs rt rd sa : BitVec 5) (funct : BitVec 6) :
    saField (rWord rs rt rd sa funct) = sa := by
  apply BitVec.eq_of_getLsbD_eq
  intro i hi
  simp only [saField, rWord, BitVec.getLsbD_extractLsb', BitVec.getLsbD_append]
  interval_cases i <;> simp

@[simp] theorem functField_rWord (rs rt rd sa : BitVec 5) (funct : BitVec 6) :
    functField (rWord rs rt rd sa funct) = funct := by
  apply BitVec.eq_of_getLsbD_eq
  intro i hi
  simp only [functField, rWord, BitVec.getLsbD_extractLsb', BitVec.getLsbD_append]
  interval_cases i <;> simp

@[simp] theorem opcodeField_iWord (opcode : BitVec 6) (rs rt : BitVec 5) (imm : BitVec 16) :
    opcodeField (iWord opcode rs rt imm) = opcode := by
  apply BitVec.eq_of_getLsbD_eq
  intro i hi
  simp only [opcodeField, iWord, BitVec.getLsbD_extractLsb', BitVec.getLsbD_append]
  interval_cases i <;> simp

@[simp] theorem rsField_iWord (opcode : BitVec 6) (rs rt : BitVec 5) (imm : BitVec 16) :
    rsField (iWord opcode rs rt imm) = rs := by
  apply BitVec.eq_of_getLsbD_eq
  intro i hi
  simp only [rsField, iWord, BitVec.getLsbD_extractLsb', BitVec.getLsbD_append]
  interval_cases i <;> simp

@[simp] theorem rtField_iWord (opcode : BitVec 6) (rs rt : BitVec 5) (imm : BitVec 16) :
    rtField (iWord opcode rs rt imm) = rt := by
  apply BitVec.eq_of_getLsbD_eq
  intro i hi
  simp only [rtField, iWord, BitVec.getLsbD_extractLsb', BitVec.getLsbD_append]
  interval_cases i <;> simp

@[simp] theorem immField_iWord (opcode : BitVec 6) (rs rt : BitVec 5) (imm : BitVec 16) :
    immField (iWord opcode rs rt imm) = imm := by
  apply BitVec.eq_of_getLsbD_eq
  intro i hi
  simp only [immField, iWord, BitVec.getLsbD_extractLsb', BitVec.getLsbD_append]
  interval_cases i <;> simp

@[simp] theorem opcodeField_jWord (opcode : BitVec 6) (target : BitVec 26) :
    opcodeField (jWord opcode target) = opcode := by
  apply BitVec.eq_of_getLsbD_eq
  intro i hi
  simp only [opcodeField, jWord, BitVec.getLsbD_extractLsb', BitVec.getLsbD_append]
  interval_cases i <;> simp

@[simp] theorem targetField_jWord (opcode : BitVec 6) (target : BitVec 26) :
    targetField (jWord opcode target) = target := by
  apply BitVec.eq_of_getLsbD_eq
  intro i hi
  simp only [targetField, jWord, BitVec.getLsbD_extractLsb', BitVec.getLsbD_append]
  interval_cases i <;> simp

@[simp] theorem opcodeField_trapWord (rs rt : BitVec 5) (code : BitVec 10) (funct : BitVec 6) :
    opcodeField (trapWord rs rt code funct) = 0b000000#6 := by
  apply BitVec.eq_of_getLsbD_eq
  intro i hi
  simp only [opcodeField, trapWord, BitVec.getLsbD_extractLsb', BitVec.getLsbD_append]
  interval_cases i <;> simp

@[simp] theorem rsField_trapWord (rs rt : BitVec 5) (code : BitVec 10) (funct : BitVec 6) :
    rsField (trapWord rs rt code funct) = rs := by
  apply BitVec.eq_of_getLsbD_eq
  intro i hi
  simp only [rsField, trapWord, BitVec.getLsbD_extractLsb', BitVec.getLsbD_append]
  interval_cases i <;> simp

@[simp] theorem rtField_trapWord (rs rt : BitVec 5) (code : BitVec 10) (funct : BitVec 6) :
    rtField (trapWord rs rt code funct) = rt := by
  apply BitVec.eq_of_getLsbD_eq
  intro i hi
  simp only [rtField, trapWord, BitVec.getLsbD_extractLsb', BitVec.getLsbD_append]
  interval_cases i <;> simp

@[simp] theorem code10Field_trapWord (rs rt : BitVec 5) (code : BitVec 10) (funct : BitVec 6) :
    code10Field (trapWord rs rt code funct) = code := by
  apply BitVec.eq_of_getLsbD_eq
  intro i hi
  simp only [code10Field, trapWord, BitVec.getLsbD_extractLsb', BitVec.getLsbD_append]
  interval_cases i <;> simp

@[simp] theorem functField_trapWord (rs rt : BitVec 5) (code : BitVec 10) (funct : BitVec 6) :
    functField (trapWord rs rt code funct) = funct := by
  apply BitVec.eq_of_getLsbD_eq
  intro i hi
  simp only [functField, trapWord, BitVec.getLsbD_extractLsb', BitVec.getLsbD_append]
  interval_cases i <;> simp

@[simp] theorem opcodeField_codeWord (code : BitVec 20) (funct : BitVec 6) :
    opcodeField (codeWord code funct) = 0b000000#6 := by
  apply BitVec.eq_of_getLsbD_eq
  intro i hi
  simp only [opcodeField, codeWord, BitVec.getLsbD_extractLsb', BitVec.getLsbD_append]
  interval_cases i <;> simp

@[simp] theorem code20Field_codeWord (code : BitVec 20) (funct : BitVec 6) :
    code20Field (codeWord code funct) = code := by
  apply BitVec.eq_of_getLsbD_eq
  intro i hi
  simp only [code20Field, codeWord, BitVec.getLsbD_extractLsb', BitVec.getLsbD_append]
  interval_cases i <;> simp

@[simp] theorem functField_codeWord (code : BitVec 20) (funct : BitVec 6) :
    functField (codeWord code funct) = funct := by
  apply BitVec.eq_of_getLsbD_eq
  intro i hi
  simp only [functField, codeWord, BitVec.getLsbD_extractLsb', BitVec.getLsbD_append]
  interval_cases i <;> simp

@[simp] theorem opcodeField_vWord (format t r : BitVec 5) (opers : BitVec 1) (vw vd : BitVec 5) :
    opcodeField (vWord format t r opers vw vd) = 0b010010#6 := by
  apply BitVec.eq_of_getLsbD_eq
  intro i hi
  simp only [opcodeField, vWord, BitVec.getLsbD_extractLsb', BitVec.getLsbD_append]
  interval_cases i <;> simp

@[simp] theorem rsField_vWord (format t r : BitVec 5) (opers : BitVec 1) (vw vd : BitVec 5) :
    rsField (vWord format t r opers vw vd) = format := by
  apply BitVec.eq_of_getLsbD_eq
  intro i hi
  simp only [rsField, vWord, BitVec.getLsbD_extractLsb', BitVec.getLsbD_append]
  interval_cases i <;> simp

@[simp] theorem rtField_vWord (format t r : BitVec 5) (opers : BitVec 1) (vw vd : BitVec 5) :
    rtField (vWord format t r opers vw vd) = t := by
  apply BitVec.eq_of_getLsbD_eq
  intro i hi
  simp only [rtField, vWord, BitVec.getLsbD_extractLsb', BitVec.getLsbD_append]
  interval_cases i <;> simp

@[simp] theorem rdField_vWord (format t r : BitVec 5) (opers : BitVec 1) (vw vd : BitVec 5) :
    rdField (vWord format t r opers vw vd) = r := by
  apply BitVec.eq_of_getLsbD_eq
  intro i hi
  simp only [rdField, vWord, BitVec.getLsbD_extractLsb', BitVec.getLsbD_append]
  interval_cases i <;> simp

@[simp] theorem opersField_vWord (format t r : BitVec 5) (opers : BitVec 1) (vw vd : BitVec 5) :
    opersField (vWord format t r opers vw vd) = opers := by
  apply BitVec.eq_of_getLsbD_eq
  intro i hi
  simp only [opersField, vWord, BitVec.getLsbD_extractLsb', BitVec.getLsbD_append]
  interval_cases i; simp

@[simp] theorem vwField_vWord (format t r : BitVec 5) (opers : BitVec 1) (vw vd : BitVec 5) :
    vwField (vWord format t r opers vw vd) = vw := by
  apply BitVec.eq_of_getLsbD_eq
  intro i hi
  simp only [vwField, vWord, BitVec.getLsbD_extractLsb', BitVec.getLsbD_append]
  interval_cases i <;> simp

@[simp] theorem vdField_vWord (format t r : BitVec 5) (opers : BitVec 1) (vw vd : BitVec 5) :
    vdField (vWord format t r opers vw vd) = vd := by
  apply BitVec.eq_of_getLsbD_eq
  intro i hi
  simp only [vdField, vWord, BitVec.getLsbD_extractLsb', BitVec.getLsbD_append]
  interval_cases i <;> simp

/-- The low eleven bits of a control-register move are fixed at zero (R91). -/
@[simp] theorem low11_vWord_zero (format t r : BitVec 5) :
    (vWord format t r 0b0#1 0b00000#5 0b00000#5).extractLsb' 0 11 = 0 := by
  apply BitVec.eq_of_getLsbD_eq
  intro i hi
  simp only [vWord, BitVec.getLsbD_extractLsb', BitVec.getLsbD_append]
  interval_cases i <;> simp

end Sys2Proof
end

