-- ==== Sys2Proof/Laws/State.lean ====
section
/-! SUPPORT. The small lemmas of the state: for every update, what each field holds after it. All are true by
`rfl`; with them no proof unfolds a record update. -/

namespace Sys2Proof.Machine

/-! ### `State.setX` -/

@[simp] theorem State.cfg_setX (s : State) (r : Reg) (w : Word) : (s.setX r w).cfg = s.cfg := rfl
@[simp] theorem State.hi_setX (s : State) (r : Reg) (w : Word) : (s.setX r w).hi = s.hi := rfl
@[simp] theorem State.lo_setX (s : State) (r : Reg) (w : Word) : (s.setX r w).lo = s.lo := rfl
@[simp] theorem State.sinceHiLo_setX (s : State) (r : Reg) (w : Word) :
    (s.setX r w).sinceHiLo = s.sinceHiLo := rfl
@[simp] theorem State.pc_setX (s : State) (r : Reg) (w : Word) : (s.setX r w).pc = s.pc := rfl
@[simp] theorem State.npc_setX (s : State) (r : Reg) (w : Word) : (s.setX r w).npc = s.npc := rfl
@[simp] theorem State.inDelaySlot_setX (s : State) (r : Reg) (w : Word) :
    (s.setX r w).inDelaySlot = s.inDelaySlot := rfl
@[simp] theorem State.llBit_setX (s : State) (r : Reg) (w : Word) : (s.setX r w).llBit = s.llBit := rfl
@[simp] theorem State.llAddr_setX (s : State) (r : Reg) (w : Word) :
    (s.setX r w).llAddr = s.llAddr := rfl
@[simp] theorem State.vr_setX (s : State) (r : Reg) (w : Word) : (s.setX r w).vr = s.vr := rfl
@[simp] theorem State.vcount_setX (s : State) (r : Reg) (w : Word) :
    (s.setX r w).vcount = s.vcount := rfl
@[simp] theorem State.vlr_setX (s : State) (r : Reg) (w : Word) : (s.setX r w).vlr = s.vlr := rfl
@[simp] theorem State.vcond_setX (s : State) (r : Reg) (w : Word) : (s.setX r w).vcond = s.vcond := rfl
@[simp] theorem State.vovf_setX (s : State) (r : Reg) (w : Word) : (s.setX r w).vovf = s.vovf := rfl
@[simp] theorem State.vsat_setX (s : State) (r : Reg) (w : Word) : (s.setX r w).vsat = s.vsat := rfl
@[simp] theorem State.cu1_setX (s : State) (r : Reg) (w : Word) : (s.setX r w).cu1 = s.cu1 := rfl
@[simp] theorem State.cu2_setX (s : State) (r : Reg) (w : Word) : (s.setX r w).cu2 = s.cu2 := rfl
@[simp] theorem State.mem_setX (s : State) (r : Reg) (w : Word) : (s.setX r w).mem = s.mem := rfl
@[simp] theorem State.map_setX (s : State) (r : Reg) (w : Word) : (s.setX r w).map = s.map := rfl
@[simp] theorem State.text_setX (s : State) (r : Reg) (w : Word) : (s.setX r w).text = s.text := rfl
@[simp] theorem State.unsynced_setX (s : State) (r : Reg) (w : Word) :
    (s.setX r w).unsynced = s.unsynced := rfl
@[simp] theorem State.trap_setX (s : State) (r : Reg) (w : Word) : (s.setX r w).trap = s.trap := rfl
@[simp] theorem State.draws_setX (s : State) (r : Reg) (w : Word) : (s.setX r w).draws = s.draws := rfl
@[simp] theorem State.v_setX (s : State) (r : Reg) (w : Word) (q : VReg) (k : Nat) :
    (s.setX r w).v q k = s.v q k := rfl
@[simp] theorem State.free_setX (s : State) (r : Reg) (w : Word) (k : Nat) :
    (s.setX r w).free k = s.free k := rfl

/-! ### `State.setVWhere` -/

@[simp] theorem State.cfg_setVWhere (s : State) (j : VReg) (p : Nat → Bool) (f : Nat → Word) :
    (s.setVWhere j p f).cfg = s.cfg := rfl
@[simp] theorem State.gpr_setVWhere (s : State) (j : VReg) (p : Nat → Bool) (f : Nat → Word) :
    (s.setVWhere j p f).gpr = s.gpr := rfl
@[simp] theorem State.hi_setVWhere (s : State) (j : VReg) (p : Nat → Bool) (f : Nat → Word) :
    (s.setVWhere j p f).hi = s.hi := rfl
@[simp] theorem State.lo_setVWhere (s : State) (j : VReg) (p : Nat → Bool) (f : Nat → Word) :
    (s.setVWhere j p f).lo = s.lo := rfl
@[simp] theorem State.sinceHiLo_setVWhere (s : State) (j : VReg) (p : Nat → Bool) (f : Nat → Word) :
    (s.setVWhere j p f).sinceHiLo = s.sinceHiLo := rfl
@[simp] theorem State.pc_setVWhere (s : State) (j : VReg) (p : Nat → Bool) (f : Nat → Word) :
    (s.setVWhere j p f).pc = s.pc := rfl
@[simp] theorem State.npc_setVWhere (s : State) (j : VReg) (p : Nat → Bool) (f : Nat → Word) :
    (s.setVWhere j p f).npc = s.npc := rfl
@[simp] theorem State.inDelaySlot_setVWhere (s : State) (j : VReg) (p : Nat → Bool) (f : Nat → Word) :
    (s.setVWhere j p f).inDelaySlot = s.inDelaySlot := rfl
@[simp] theorem State.llBit_setVWhere (s : State) (j : VReg) (p : Nat → Bool) (f : Nat → Word) :
    (s.setVWhere j p f).llBit = s.llBit := rfl
@[simp] theorem State.llAddr_setVWhere (s : State) (j : VReg) (p : Nat → Bool) (f : Nat → Word) :
    (s.setVWhere j p f).llAddr = s.llAddr := rfl
@[simp] theorem State.vcount_setVWhere (s : State) (j : VReg) (p : Nat → Bool) (f : Nat → Word) :
    (s.setVWhere j p f).vcount = s.vcount := rfl
@[simp] theorem State.vlr_setVWhere (s : State) (j : VReg) (p : Nat → Bool) (f : Nat → Word) :
    (s.setVWhere j p f).vlr = s.vlr := rfl
@[simp] theorem State.vcond_setVWhere (s : State) (j : VReg) (p : Nat → Bool) (f : Nat → Word) :
    (s.setVWhere j p f).vcond = s.vcond := rfl
@[simp] theorem State.vovf_setVWhere (s : State) (j : VReg) (p : Nat → Bool) (f : Nat → Word) :
    (s.setVWhere j p f).vovf = s.vovf := rfl
@[simp] theorem State.vsat_setVWhere (s : State) (j : VReg) (p : Nat → Bool) (f : Nat → Word) :
    (s.setVWhere j p f).vsat = s.vsat := rfl
@[simp] theorem State.cu1_setVWhere (s : State) (j : VReg) (p : Nat → Bool) (f : Nat → Word) :
    (s.setVWhere j p f).cu1 = s.cu1 := rfl
@[simp] theorem State.cu2_setVWhere (s : State) (j : VReg) (p : Nat → Bool) (f : Nat → Word) :
    (s.setVWhere j p f).cu2 = s.cu2 := rfl
@[simp] theorem State.mem_setVWhere (s : State) (j : VReg) (p : Nat → Bool) (f : Nat → Word) :
    (s.setVWhere j p f).mem = s.mem := rfl
@[simp] theorem State.map_setVWhere (s : State) (j : VReg) (p : Nat → Bool) (f : Nat → Word) :
    (s.setVWhere j p f).map = s.map := rfl
@[simp] theorem State.text_setVWhere (s : State) (j : VReg) (p : Nat → Bool) (f : Nat → Word) :
    (s.setVWhere j p f).text = s.text := rfl
@[simp] theorem State.unsynced_setVWhere (s : State) (j : VReg) (p : Nat → Bool) (f : Nat → Word) :
    (s.setVWhere j p f).unsynced = s.unsynced := rfl
@[simp] theorem State.trap_setVWhere (s : State) (j : VReg) (p : Nat → Bool) (f : Nat → Word) :
    (s.setVWhere j p f).trap = s.trap := rfl
@[simp] theorem State.draws_setVWhere (s : State) (j : VReg) (p : Nat → Bool) (f : Nat → Word) :
    (s.setVWhere j p f).draws = s.draws := rfl
@[simp] theorem State.x_setVWhere (s : State) (j : VReg) (p : Nat → Bool) (f : Nat → Word) (q : Reg) :
    (s.setVWhere j p f).x q = s.x q := rfl
@[simp] theorem State.free_setVWhere (s : State) (j : VReg) (p : Nat → Bool) (f : Nat → Word) (k : Nat) :
    (s.setVWhere j p f).free k = s.free k := rfl

/-! ### `State.setV` -/

@[simp] theorem State.cfg_setV (s : State) (j : VReg) (n : Nat) (f : Nat → Word) :
    (s.setV j n f).cfg = s.cfg := rfl
@[simp] theorem State.gpr_setV (s : State) (j : VReg) (n : Nat) (f : Nat → Word) :
    (s.setV j n f).gpr = s.gpr := rfl
@[simp] theorem State.hi_setV (s : State) (j : VReg) (n : Nat) (f : Nat → Word) :
    (s.setV j n f).hi = s.hi := rfl
@[simp] theorem State.lo_setV (s : State) (j : VReg) (n : Nat) (f : Nat → Word) :
    (s.setV j n f).lo = s.lo := rfl
@[simp] theorem State.sinceHiLo_setV (s : State) (j : VReg) (n : Nat) (f : Nat → Word) :
    (s.setV j n f).sinceHiLo = s.sinceHiLo := rfl
@[simp] theorem State.pc_setV (s : State) (j : VReg) (n : Nat) (f : Nat → Word) :
    (s.setV j n f).pc = s.pc := rfl
@[simp] theorem State.npc_setV (s : State) (j : VReg) (n : Nat) (f : Nat → Word) :
    (s.setV j n f).npc = s.npc := rfl
@[simp] theorem State.inDelaySlot_setV (s : State) (j : VReg) (n : Nat) (f : Nat → Word) :
    (s.setV j n f).inDelaySlot = s.inDelaySlot := rfl
@[simp] theorem State.llBit_setV (s : State) (j : VReg) (n : Nat) (f : Nat → Word) :
    (s.setV j n f).llBit = s.llBit := rfl
@[simp] theorem State.llAddr_setV (s : State) (j : VReg) (n : Nat) (f : Nat → Word) :
    (s.setV j n f).llAddr = s.llAddr := rfl
@[simp] theorem State.vcount_setV (s : State) (j : VReg) (n : Nat) (f : Nat → Word) :
    (s.setV j n f).vcount = s.vcount := rfl
@[simp] theorem State.vlr_setV (s : State) (j : VReg) (n : Nat) (f : Nat → Word) :
    (s.setV j n f).vlr = s.vlr := rfl
@[simp] theorem State.vcond_setV (s : State) (j : VReg) (n : Nat) (f : Nat → Word) :
    (s.setV j n f).vcond = s.vcond := rfl
@[simp] theorem State.vovf_setV (s : State) (j : VReg) (n : Nat) (f : Nat → Word) :
    (s.setV j n f).vovf = s.vovf := rfl
@[simp] theorem State.vsat_setV (s : State) (j : VReg) (n : Nat) (f : Nat → Word) :
    (s.setV j n f).vsat = s.vsat := rfl
@[simp] theorem State.cu1_setV (s : State) (j : VReg) (n : Nat) (f : Nat → Word) :
    (s.setV j n f).cu1 = s.cu1 := rfl
@[simp] theorem State.cu2_setV (s : State) (j : VReg) (n : Nat) (f : Nat → Word) :
    (s.setV j n f).cu2 = s.cu2 := rfl
@[simp] theorem State.mem_setV (s : State) (j : VReg) (n : Nat) (f : Nat → Word) :
    (s.setV j n f).mem = s.mem := rfl
@[simp] theorem State.map_setV (s : State) (j : VReg) (n : Nat) (f : Nat → Word) :
    (s.setV j n f).map = s.map := rfl
@[simp] theorem State.text_setV (s : State) (j : VReg) (n : Nat) (f : Nat → Word) :
    (s.setV j n f).text = s.text := rfl
@[simp] theorem State.unsynced_setV (s : State) (j : VReg) (n : Nat) (f : Nat → Word) :
    (s.setV j n f).unsynced = s.unsynced := rfl
@[simp] theorem State.trap_setV (s : State) (j : VReg) (n : Nat) (f : Nat → Word) :
    (s.setV j n f).trap = s.trap := rfl
@[simp] theorem State.draws_setV (s : State) (j : VReg) (n : Nat) (f : Nat → Word) :
    (s.setV j n f).draws = s.draws := rfl
@[simp] theorem State.x_setV (s : State) (j : VReg) (n : Nat) (f : Nat → Word) (q : Reg) :
    (s.setV j n f).x q = s.x q := rfl
@[simp] theorem State.free_setV (s : State) (j : VReg) (n : Nat) (f : Nat → Word) (k : Nat) :
    (s.setV j n f).free k = s.free k := rfl

/-! ### `State.drawn` -/

@[simp] theorem State.cfg_drawn (s : State) (n : Nat) : (s.drawn n).cfg = s.cfg := rfl
@[simp] theorem State.gpr_drawn (s : State) (n : Nat) : (s.drawn n).gpr = s.gpr := rfl
@[simp] theorem State.hi_drawn (s : State) (n : Nat) : (s.drawn n).hi = s.hi := rfl
@[simp] theorem State.lo_drawn (s : State) (n : Nat) : (s.drawn n).lo = s.lo := rfl
@[simp] theorem State.sinceHiLo_drawn (s : State) (n : Nat) : (s.drawn n).sinceHiLo = s.sinceHiLo := rfl
@[simp] theorem State.pc_drawn (s : State) (n : Nat) : (s.drawn n).pc = s.pc := rfl
@[simp] theorem State.npc_drawn (s : State) (n : Nat) : (s.drawn n).npc = s.npc := rfl
@[simp] theorem State.inDelaySlot_drawn (s : State) (n : Nat) :
    (s.drawn n).inDelaySlot = s.inDelaySlot := rfl
@[simp] theorem State.llBit_drawn (s : State) (n : Nat) : (s.drawn n).llBit = s.llBit := rfl
@[simp] theorem State.llAddr_drawn (s : State) (n : Nat) : (s.drawn n).llAddr = s.llAddr := rfl
@[simp] theorem State.vr_drawn (s : State) (n : Nat) : (s.drawn n).vr = s.vr := rfl
@[simp] theorem State.vcount_drawn (s : State) (n : Nat) : (s.drawn n).vcount = s.vcount := rfl
@[simp] theorem State.vlr_drawn (s : State) (n : Nat) : (s.drawn n).vlr = s.vlr := rfl
@[simp] theorem State.vcond_drawn (s : State) (n : Nat) : (s.drawn n).vcond = s.vcond := rfl
@[simp] theorem State.vovf_drawn (s : State) (n : Nat) : (s.drawn n).vovf = s.vovf := rfl
@[simp] theorem State.vsat_drawn (s : State) (n : Nat) : (s.drawn n).vsat = s.vsat := rfl
@[simp] theorem State.cu1_drawn (s : State) (n : Nat) : (s.drawn n).cu1 = s.cu1 := rfl
@[simp] theorem State.cu2_drawn (s : State) (n : Nat) : (s.drawn n).cu2 = s.cu2 := rfl
@[simp] theorem State.mem_drawn (s : State) (n : Nat) : (s.drawn n).mem = s.mem := rfl
@[simp] theorem State.map_drawn (s : State) (n : Nat) : (s.drawn n).map = s.map := rfl
@[simp] theorem State.text_drawn (s : State) (n : Nat) : (s.drawn n).text = s.text := rfl
@[simp] theorem State.unsynced_drawn (s : State) (n : Nat) : (s.drawn n).unsynced = s.unsynced := rfl
@[simp] theorem State.trap_drawn (s : State) (n : Nat) : (s.drawn n).trap = s.trap := rfl
@[simp] theorem State.draws_drawn (s : State) (n : Nat) : (s.drawn n).draws = s.draws + n := rfl
@[simp] theorem State.x_drawn (s : State) (n : Nat) (q : Reg) : (s.drawn n).x q = s.x q := rfl
@[simp] theorem State.v_drawn (s : State) (n : Nat) (q : VReg) (k : Nat) :
    (s.drawn n).v q k = s.v q k := rfl

/-! ### `State.advance` -/

@[simp] theorem State.cfg_advance (s : State) : s.advance.cfg = s.cfg := rfl
@[simp] theorem State.gpr_advance (s : State) : s.advance.gpr = s.gpr := rfl
@[simp] theorem State.hi_advance (s : State) : s.advance.hi = s.hi := rfl
@[simp] theorem State.lo_advance (s : State) : s.advance.lo = s.lo := rfl
@[simp] theorem State.sinceHiLo_advance (s : State) : s.advance.sinceHiLo = tickHiLo s.sinceHiLo := rfl
@[simp] theorem State.pc_advance (s : State) : s.advance.pc = s.npc := rfl
@[simp] theorem State.npc_advance (s : State) : s.advance.npc = s.npc + 4 := rfl
@[simp] theorem State.inDelaySlot_advance (s : State) : s.advance.inDelaySlot = false := rfl
@[simp] theorem State.llBit_advance (s : State) : s.advance.llBit = s.llBit := rfl
@[simp] theorem State.llAddr_advance (s : State) : s.advance.llAddr = s.llAddr := rfl
@[simp] theorem State.vr_advance (s : State) : s.advance.vr = s.vr := rfl
@[simp] theorem State.vcount_advance (s : State) : s.advance.vcount = s.vcount := rfl
@[simp] theorem State.vlr_advance (s : State) : s.advance.vlr = s.vlr := rfl
@[simp] theorem State.vcond_advance (s : State) : s.advance.vcond = s.vcond := rfl
@[simp] theorem State.vovf_advance (s : State) : s.advance.vovf = s.vovf := rfl
@[simp] theorem State.vsat_advance (s : State) : s.advance.vsat = s.vsat := rfl
@[simp] theorem State.cu1_advance (s : State) : s.advance.cu1 = s.cu1 := rfl
@[simp] theorem State.cu2_advance (s : State) : s.advance.cu2 = s.cu2 := rfl
@[simp] theorem State.mem_advance (s : State) : s.advance.mem = s.mem := rfl
@[simp] theorem State.map_advance (s : State) : s.advance.map = s.map := rfl
@[simp] theorem State.text_advance (s : State) : s.advance.text = s.text := rfl
@[simp] theorem State.unsynced_advance (s : State) : s.advance.unsynced = s.unsynced := rfl
@[simp] theorem State.trap_advance (s : State) : s.advance.trap = s.trap := rfl
@[simp] theorem State.draws_advance (s : State) : s.advance.draws = s.draws := rfl
@[simp] theorem State.x_advance (s : State) (q : Reg) : s.advance.x q = s.x q := rfl
@[simp] theorem State.v_advance (s : State) (q : VReg) (k : Nat) :
    s.advance.v q k = s.v q k := rfl
@[simp] theorem State.free_advance (s : State) (k : Nat) : s.advance.free k = s.free k := rfl

/-! ### `State.branchTo` -/

@[simp] theorem State.cfg_branchTo (s : State) (a : Word) : (s.branchTo a).cfg = s.cfg := rfl
@[simp] theorem State.gpr_branchTo (s : State) (a : Word) : (s.branchTo a).gpr = s.gpr := rfl
@[simp] theorem State.hi_branchTo (s : State) (a : Word) : (s.branchTo a).hi = s.hi := rfl
@[simp] theorem State.lo_branchTo (s : State) (a : Word) : (s.branchTo a).lo = s.lo := rfl
@[simp] theorem State.sinceHiLo_branchTo (s : State) (a : Word) :
    (s.branchTo a).sinceHiLo = tickHiLo s.sinceHiLo := rfl
@[simp] theorem State.pc_branchTo (s : State) (a : Word) : (s.branchTo a).pc = s.npc := rfl
@[simp] theorem State.npc_branchTo (s : State) (a : Word) : (s.branchTo a).npc = a := rfl
@[simp] theorem State.inDelaySlot_branchTo (s : State) (a : Word) :
    (s.branchTo a).inDelaySlot = true := rfl
@[simp] theorem State.llBit_branchTo (s : State) (a : Word) : (s.branchTo a).llBit = s.llBit := rfl
@[simp] theorem State.llAddr_branchTo (s : State) (a : Word) : (s.branchTo a).llAddr = s.llAddr := rfl
@[simp] theorem State.vr_branchTo (s : State) (a : Word) : (s.branchTo a).vr = s.vr := rfl
@[simp] theorem State.vcount_branchTo (s : State) (a : Word) : (s.branchTo a).vcount = s.vcount := rfl
@[simp] theorem State.vlr_branchTo (s : State) (a : Word) : (s.branchTo a).vlr = s.vlr := rfl
@[simp] theorem State.vcond_branchTo (s : State) (a : Word) : (s.branchTo a).vcond = s.vcond := rfl
@[simp] theorem State.vovf_branchTo (s : State) (a : Word) : (s.branchTo a).vovf = s.vovf := rfl
@[simp] theorem State.vsat_branchTo (s : State) (a : Word) : (s.branchTo a).vsat = s.vsat := rfl
@[simp] theorem State.cu1_branchTo (s : State) (a : Word) : (s.branchTo a).cu1 = s.cu1 := rfl
@[simp] theorem State.cu2_branchTo (s : State) (a : Word) : (s.branchTo a).cu2 = s.cu2 := rfl
@[simp] theorem State.mem_branchTo (s : State) (a : Word) : (s.branchTo a).mem = s.mem := rfl
@[simp] theorem State.map_branchTo (s : State) (a : Word) : (s.branchTo a).map = s.map := rfl
@[simp] theorem State.text_branchTo (s : State) (a : Word) : (s.branchTo a).text = s.text := rfl
@[simp] theorem State.unsynced_branchTo (s : State) (a : Word) :
    (s.branchTo a).unsynced = s.unsynced := rfl
@[simp] theorem State.trap_branchTo (s : State) (a : Word) : (s.branchTo a).trap = s.trap := rfl
@[simp] theorem State.draws_branchTo (s : State) (a : Word) : (s.branchTo a).draws = s.draws := rfl
@[simp] theorem State.x_branchTo (s : State) (a : Word) (q : Reg) : (s.branchTo a).x q = s.x q := rfl
@[simp] theorem State.v_branchTo (s : State) (a : Word) (q : VReg) (k : Nat) :
    (s.branchTo a).v q k = s.v q k := rfl
@[simp] theorem State.free_branchTo (s : State) (a : Word) (k : Nat) :
    (s.branchTo a).free k = s.free k := rfl

/-! ### `State.fallThrough` -/

@[simp] theorem State.cfg_fallThrough (s : State) : s.fallThrough.cfg = s.cfg := rfl
@[simp] theorem State.gpr_fallThrough (s : State) : s.fallThrough.gpr = s.gpr := rfl
@[simp] theorem State.hi_fallThrough (s : State) : s.fallThrough.hi = s.hi := rfl
@[simp] theorem State.lo_fallThrough (s : State) : s.fallThrough.lo = s.lo := rfl
@[simp] theorem State.sinceHiLo_fallThrough (s : State) :
    s.fallThrough.sinceHiLo = tickHiLo s.sinceHiLo := rfl
@[simp] theorem State.pc_fallThrough (s : State) : s.fallThrough.pc = s.npc := rfl
@[simp] theorem State.npc_fallThrough (s : State) : s.fallThrough.npc = s.npc + 4 := rfl
@[simp] theorem State.inDelaySlot_fallThrough (s : State) : s.fallThrough.inDelaySlot = true := rfl
@[simp] theorem State.llBit_fallThrough (s : State) : s.fallThrough.llBit = s.llBit := rfl
@[simp] theorem State.llAddr_fallThrough (s : State) : s.fallThrough.llAddr = s.llAddr := rfl
@[simp] theorem State.vr_fallThrough (s : State) : s.fallThrough.vr = s.vr := rfl
@[simp] theorem State.vcount_fallThrough (s : State) : s.fallThrough.vcount = s.vcount := rfl
@[simp] theorem State.vlr_fallThrough (s : State) : s.fallThrough.vlr = s.vlr := rfl
@[simp] theorem State.vcond_fallThrough (s : State) : s.fallThrough.vcond = s.vcond := rfl
@[simp] theorem State.vovf_fallThrough (s : State) : s.fallThrough.vovf = s.vovf := rfl
@[simp] theorem State.vsat_fallThrough (s : State) : s.fallThrough.vsat = s.vsat := rfl
@[simp] theorem State.cu1_fallThrough (s : State) : s.fallThrough.cu1 = s.cu1 := rfl
@[simp] theorem State.cu2_fallThrough (s : State) : s.fallThrough.cu2 = s.cu2 := rfl
@[simp] theorem State.mem_fallThrough (s : State) : s.fallThrough.mem = s.mem := rfl
@[simp] theorem State.map_fallThrough (s : State) : s.fallThrough.map = s.map := rfl
@[simp] theorem State.text_fallThrough (s : State) : s.fallThrough.text = s.text := rfl
@[simp] theorem State.unsynced_fallThrough (s : State) : s.fallThrough.unsynced = s.unsynced := rfl
@[simp] theorem State.trap_fallThrough (s : State) : s.fallThrough.trap = s.trap := rfl
@[simp] theorem State.draws_fallThrough (s : State) : s.fallThrough.draws = s.draws := rfl
@[simp] theorem State.x_fallThrough (s : State) (q : Reg) : s.fallThrough.x q = s.x q := rfl
@[simp] theorem State.v_fallThrough (s : State) (q : VReg) (k : Nat) :
    s.fallThrough.v q k = s.v q k := rfl
@[simp] theorem State.free_fallThrough (s : State) (k : Nat) : s.fallThrough.free k = s.free k := rfl

/-! ### `State.nullify` -/

@[simp] theorem State.cfg_nullify (s : State) : s.nullify.cfg = s.cfg := rfl
@[simp] theorem State.gpr_nullify (s : State) : s.nullify.gpr = s.gpr := rfl
@[simp] theorem State.hi_nullify (s : State) : s.nullify.hi = s.hi := rfl
@[simp] theorem State.lo_nullify (s : State) : s.nullify.lo = s.lo := rfl
@[simp] theorem State.sinceHiLo_nullify (s : State) : s.nullify.sinceHiLo = tickHiLo s.sinceHiLo := rfl
@[simp] theorem State.pc_nullify (s : State) : s.nullify.pc = s.npc + 4 := rfl
@[simp] theorem State.npc_nullify (s : State) : s.nullify.npc = s.npc + 8 := rfl
@[simp] theorem State.inDelaySlot_nullify (s : State) : s.nullify.inDelaySlot = false := rfl
@[simp] theorem State.llBit_nullify (s : State) : s.nullify.llBit = s.llBit := rfl
@[simp] theorem State.llAddr_nullify (s : State) : s.nullify.llAddr = s.llAddr := rfl
@[simp] theorem State.vr_nullify (s : State) : s.nullify.vr = s.vr := rfl
@[simp] theorem State.vcount_nullify (s : State) : s.nullify.vcount = s.vcount := rfl
@[simp] theorem State.vlr_nullify (s : State) : s.nullify.vlr = s.vlr := rfl
@[simp] theorem State.vcond_nullify (s : State) : s.nullify.vcond = s.vcond := rfl
@[simp] theorem State.vovf_nullify (s : State) : s.nullify.vovf = s.vovf := rfl
@[simp] theorem State.vsat_nullify (s : State) : s.nullify.vsat = s.vsat := rfl
@[simp] theorem State.cu1_nullify (s : State) : s.nullify.cu1 = s.cu1 := rfl
@[simp] theorem State.cu2_nullify (s : State) : s.nullify.cu2 = s.cu2 := rfl
@[simp] theorem State.mem_nullify (s : State) : s.nullify.mem = s.mem := rfl
@[simp] theorem State.map_nullify (s : State) : s.nullify.map = s.map := rfl
@[simp] theorem State.text_nullify (s : State) : s.nullify.text = s.text := rfl
@[simp] theorem State.unsynced_nullify (s : State) : s.nullify.unsynced = s.unsynced := rfl
@[simp] theorem State.trap_nullify (s : State) : s.nullify.trap = s.trap := rfl
@[simp] theorem State.draws_nullify (s : State) : s.nullify.draws = s.draws := rfl
@[simp] theorem State.x_nullify (s : State) (q : Reg) : s.nullify.x q = s.x q := rfl
@[simp] theorem State.v_nullify (s : State) (q : VReg) (k : Nat) :
    s.nullify.v q k = s.v q k := rfl
@[simp] theorem State.free_nullify (s : State) (k : Nat) : s.nullify.free k = s.free k := rfl

/-! ### `State.trapped` -/

@[simp] theorem State.cfg_trapped (s : State) (c : Cause) (i : TrapInfo) :
    (s.trapped c i).cfg = s.cfg := rfl
@[simp] theorem State.gpr_trapped (s : State) (c : Cause) (i : TrapInfo) :
    (s.trapped c i).gpr = s.gpr := rfl
@[simp] theorem State.hi_trapped (s : State) (c : Cause) (i : TrapInfo) :
    (s.trapped c i).hi = s.hi := rfl
@[simp] theorem State.lo_trapped (s : State) (c : Cause) (i : TrapInfo) :
    (s.trapped c i).lo = s.lo := rfl
@[simp] theorem State.sinceHiLo_trapped (s : State) (c : Cause) (i : TrapInfo) :
    (s.trapped c i).sinceHiLo = s.sinceHiLo := rfl
@[simp] theorem State.pc_trapped (s : State) (c : Cause) (i : TrapInfo) :
    (s.trapped c i).pc = s.pc := rfl
@[simp] theorem State.npc_trapped (s : State) (c : Cause) (i : TrapInfo) :
    (s.trapped c i).npc = s.npc := rfl
@[simp] theorem State.inDelaySlot_trapped (s : State) (c : Cause) (i : TrapInfo) :
    (s.trapped c i).inDelaySlot = s.inDelaySlot := rfl
@[simp] theorem State.llBit_trapped (s : State) (c : Cause) (i : TrapInfo) :
    (s.trapped c i).llBit = s.llBit := rfl
@[simp] theorem State.llAddr_trapped (s : State) (c : Cause) (i : TrapInfo) :
    (s.trapped c i).llAddr = s.llAddr := rfl
@[simp] theorem State.vr_trapped (s : State) (c : Cause) (i : TrapInfo) :
    (s.trapped c i).vr = s.vr := rfl
@[simp] theorem State.vcount_trapped (s : State) (c : Cause) (i : TrapInfo) :
    (s.trapped c i).vcount = s.vcount := rfl
@[simp] theorem State.vlr_trapped (s : State) (c : Cause) (i : TrapInfo) :
    (s.trapped c i).vlr = s.vlr := rfl
@[simp] theorem State.vcond_trapped (s : State) (c : Cause) (i : TrapInfo) :
    (s.trapped c i).vcond = s.vcond := rfl
@[simp] theorem State.vovf_trapped (s : State) (c : Cause) (i : TrapInfo) :
    (s.trapped c i).vovf = s.vovf := rfl
@[simp] theorem State.vsat_trapped (s : State) (c : Cause) (i : TrapInfo) :
    (s.trapped c i).vsat = s.vsat := rfl
@[simp] theorem State.cu1_trapped (s : State) (c : Cause) (i : TrapInfo) :
    (s.trapped c i).cu1 = s.cu1 := rfl
@[simp] theorem State.cu2_trapped (s : State) (c : Cause) (i : TrapInfo) :
    (s.trapped c i).cu2 = s.cu2 := rfl
@[simp] theorem State.mem_trapped (s : State) (c : Cause) (i : TrapInfo) :
    (s.trapped c i).mem = s.mem := rfl
@[simp] theorem State.map_trapped (s : State) (c : Cause) (i : TrapInfo) :
    (s.trapped c i).map = s.map := rfl
@[simp] theorem State.text_trapped (s : State) (c : Cause) (i : TrapInfo) :
    (s.trapped c i).text = s.text := rfl
@[simp] theorem State.unsynced_trapped (s : State) (c : Cause) (i : TrapInfo) :
    (s.trapped c i).unsynced = s.unsynced := rfl
@[simp] theorem State.trap_trapped (s : State) (c : Cause) (i : TrapInfo) :
    (s.trapped c i).trap = some (s.trapRecord c i) := rfl
@[simp] theorem State.draws_trapped (s : State) (c : Cause) (i : TrapInfo) :
    (s.trapped c i).draws = s.draws := rfl
@[simp] theorem State.x_trapped (s : State) (c : Cause) (i : TrapInfo) (q : Reg) :
    (s.trapped c i).x q = s.x q := rfl
@[simp] theorem State.v_trapped (s : State) (c : Cause) (i : TrapInfo) (q : VReg) (k : Nat) :
    (s.trapped c i).v q k = s.v q k := rfl
@[simp] theorem State.free_trapped (s : State) (c : Cause) (i : TrapInfo) (k : Nat) :
    (s.trapped c i).free k = s.free k := rfl

/-! ### `State.writeCells` -/

@[simp] theorem State.cfg_writeCells (s : State) (l : List Host.Cell) :
    (s.writeCells l).cfg = s.cfg := rfl
@[simp] theorem State.gpr_writeCells (s : State) (l : List Host.Cell) :
    (s.writeCells l).gpr = s.gpr := rfl
@[simp] theorem State.hi_writeCells (s : State) (l : List Host.Cell) : (s.writeCells l).hi = s.hi := rfl
@[simp] theorem State.lo_writeCells (s : State) (l : List Host.Cell) : (s.writeCells l).lo = s.lo := rfl
@[simp] theorem State.sinceHiLo_writeCells (s : State) (l : List Host.Cell) :
    (s.writeCells l).sinceHiLo = s.sinceHiLo := rfl
@[simp] theorem State.pc_writeCells (s : State) (l : List Host.Cell) : (s.writeCells l).pc = s.pc := rfl
@[simp] theorem State.npc_writeCells (s : State) (l : List Host.Cell) :
    (s.writeCells l).npc = s.npc := rfl
@[simp] theorem State.inDelaySlot_writeCells (s : State) (l : List Host.Cell) :
    (s.writeCells l).inDelaySlot = s.inDelaySlot := rfl
@[simp] theorem State.llBit_writeCells (s : State) (l : List Host.Cell) :
    (s.writeCells l).llBit = s.llBit := rfl
@[simp] theorem State.llAddr_writeCells (s : State) (l : List Host.Cell) :
    (s.writeCells l).llAddr = s.llAddr := rfl
@[simp] theorem State.vr_writeCells (s : State) (l : List Host.Cell) : (s.writeCells l).vr = s.vr := rfl
@[simp] theorem State.vcount_writeCells (s : State) (l : List Host.Cell) :
    (s.writeCells l).vcount = s.vcount := rfl
@[simp] theorem State.vlr_writeCells (s : State) (l : List Host.Cell) :
    (s.writeCells l).vlr = s.vlr := rfl
@[simp] theorem State.vcond_writeCells (s : State) (l : List Host.Cell) :
    (s.writeCells l).vcond = s.vcond := rfl
@[simp] theorem State.vovf_writeCells (s : State) (l : List Host.Cell) :
    (s.writeCells l).vovf = s.vovf := rfl
@[simp] theorem State.vsat_writeCells (s : State) (l : List Host.Cell) :
    (s.writeCells l).vsat = s.vsat := rfl
@[simp] theorem State.cu1_writeCells (s : State) (l : List Host.Cell) :
    (s.writeCells l).cu1 = s.cu1 := rfl
@[simp] theorem State.cu2_writeCells (s : State) (l : List Host.Cell) :
    (s.writeCells l).cu2 = s.cu2 := rfl
@[simp] theorem State.mem_writeCells (s : State) (l : List Host.Cell) :
    (s.writeCells l).mem = s.mem.writeAll l := rfl
@[simp] theorem State.map_writeCells (s : State) (l : List Host.Cell) :
    (s.writeCells l).map = s.map := rfl
@[simp] theorem State.text_writeCells (s : State) (l : List Host.Cell) :
    (s.writeCells l).text = s.text := rfl
@[simp] theorem State.unsynced_writeCells (s : State) (l : List Host.Cell) :
    (s.writeCells l).unsynced = s.unsynced := rfl
@[simp] theorem State.trap_writeCells (s : State) (l : List Host.Cell) :
    (s.writeCells l).trap = s.trap := rfl
@[simp] theorem State.draws_writeCells (s : State) (l : List Host.Cell) :
    (s.writeCells l).draws = s.draws := rfl
@[simp] theorem State.x_writeCells (s : State) (l : List Host.Cell) (q : Reg) :
    (s.writeCells l).x q = s.x q := rfl
@[simp] theorem State.v_writeCells (s : State) (l : List Host.Cell) (q : VReg) (k : Nat) :
    (s.writeCells l).v q k = s.v q k := rfl
@[simp] theorem State.free_writeCells (s : State) (l : List Host.Cell) (k : Nat) :
    (s.writeCells l).free k = s.free k := rfl

/-! ### `State.recordAccess` -/

@[simp] theorem State.cfg_recordAccess (s : State) (n : AccessRecord) :
    (s.recordAccess n).cfg = s.cfg := rfl
@[simp] theorem State.gpr_recordAccess (s : State) (n : AccessRecord) :
    (s.recordAccess n).gpr = s.gpr := rfl
@[simp] theorem State.hi_recordAccess (s : State) (n : AccessRecord) :
    (s.recordAccess n).hi = s.hi := rfl
@[simp] theorem State.lo_recordAccess (s : State) (n : AccessRecord) :
    (s.recordAccess n).lo = s.lo := rfl
@[simp] theorem State.sinceHiLo_recordAccess (s : State) (n : AccessRecord) :
    (s.recordAccess n).sinceHiLo = s.sinceHiLo := rfl
@[simp] theorem State.pc_recordAccess (s : State) (n : AccessRecord) :
    (s.recordAccess n).pc = s.pc := rfl
@[simp] theorem State.npc_recordAccess (s : State) (n : AccessRecord) :
    (s.recordAccess n).npc = s.npc := rfl
@[simp] theorem State.inDelaySlot_recordAccess (s : State) (n : AccessRecord) :
    (s.recordAccess n).inDelaySlot = s.inDelaySlot := rfl
@[simp] theorem State.llBit_recordAccess (s : State) (n : AccessRecord) :
    (s.recordAccess n).llBit = s.llBit := rfl
@[simp] theorem State.llAddr_recordAccess (s : State) (n : AccessRecord) :
    (s.recordAccess n).llAddr = s.llAddr := rfl
@[simp] theorem State.vr_recordAccess (s : State) (n : AccessRecord) :
    (s.recordAccess n).vr = s.vr := rfl
@[simp] theorem State.vcount_recordAccess (s : State) (n : AccessRecord) :
    (s.recordAccess n).vcount = s.vcount := rfl
@[simp] theorem State.vlr_recordAccess (s : State) (n : AccessRecord) :
    (s.recordAccess n).vlr = s.vlr := rfl
@[simp] theorem State.vcond_recordAccess (s : State) (n : AccessRecord) :
    (s.recordAccess n).vcond = s.vcond := rfl
@[simp] theorem State.vovf_recordAccess (s : State) (n : AccessRecord) :
    (s.recordAccess n).vovf = s.vovf := rfl
@[simp] theorem State.vsat_recordAccess (s : State) (n : AccessRecord) :
    (s.recordAccess n).vsat = s.vsat := rfl
@[simp] theorem State.cu1_recordAccess (s : State) (n : AccessRecord) :
    (s.recordAccess n).cu1 = s.cu1 := rfl
@[simp] theorem State.cu2_recordAccess (s : State) (n : AccessRecord) :
    (s.recordAccess n).cu2 = s.cu2 := rfl
@[simp] theorem State.mem_recordAccess (s : State) (n : AccessRecord) :
    (s.recordAccess n).mem = s.mem := rfl
@[simp] theorem State.map_recordAccess (s : State) (n : AccessRecord) :
    (s.recordAccess n).map = s.map := rfl
@[simp] theorem State.text_recordAccess (s : State) (n : AccessRecord) :
    (s.recordAccess n).text = s.text := rfl
@[simp] theorem State.trap_recordAccess (s : State) (n : AccessRecord) :
    (s.recordAccess n).trap = s.trap := rfl
@[simp] theorem State.draws_recordAccess (s : State) (n : AccessRecord) :
    (s.recordAccess n).draws = s.draws := rfl
@[simp] theorem State.x_recordAccess (s : State) (n : AccessRecord) (q : Reg) :
    (s.recordAccess n).x q = s.x q := rfl
@[simp] theorem State.v_recordAccess (s : State) (n : AccessRecord) (q : VReg) (k : Nat) :
    (s.recordAccess n).v q k = s.v q k := rfl
@[simp] theorem State.free_recordAccess (s : State) (n : AccessRecord) (k : Nat) :
    (s.recordAccess n).free k = s.free k := rfl

/-! ### `State.orVovf` -/

@[simp] theorem State.cfg_orVovf (s : State) (n : Nat) (p : Nat → Bool) :
    (s.orVovf n p).cfg = s.cfg := rfl
@[simp] theorem State.gpr_orVovf (s : State) (n : Nat) (p : Nat → Bool) :
    (s.orVovf n p).gpr = s.gpr := rfl
@[simp] theorem State.hi_orVovf (s : State) (n : Nat) (p : Nat → Bool) : (s.orVovf n p).hi = s.hi := rfl
@[simp] theorem State.lo_orVovf (s : State) (n : Nat) (p : Nat → Bool) : (s.orVovf n p).lo = s.lo := rfl
@[simp] theorem State.sinceHiLo_orVovf (s : State) (n : Nat) (p : Nat → Bool) :
    (s.orVovf n p).sinceHiLo = s.sinceHiLo := rfl
@[simp] theorem State.pc_orVovf (s : State) (n : Nat) (p : Nat → Bool) : (s.orVovf n p).pc = s.pc := rfl
@[simp] theorem State.npc_orVovf (s : State) (n : Nat) (p : Nat → Bool) :
    (s.orVovf n p).npc = s.npc := rfl
@[simp] theorem State.inDelaySlot_orVovf (s : State) (n : Nat) (p : Nat → Bool) :
    (s.orVovf n p).inDelaySlot = s.inDelaySlot := rfl
@[simp] theorem State.llBit_orVovf (s : State) (n : Nat) (p : Nat → Bool) :
    (s.orVovf n p).llBit = s.llBit := rfl
@[simp] theorem State.llAddr_orVovf (s : State) (n : Nat) (p : Nat → Bool) :
    (s.orVovf n p).llAddr = s.llAddr := rfl
@[simp] theorem State.vr_orVovf (s : State) (n : Nat) (p : Nat → Bool) : (s.orVovf n p).vr = s.vr := rfl
@[simp] theorem State.vcount_orVovf (s : State) (n : Nat) (p : Nat → Bool) :
    (s.orVovf n p).vcount = s.vcount := rfl
@[simp] theorem State.vlr_orVovf (s : State) (n : Nat) (p : Nat → Bool) :
    (s.orVovf n p).vlr = s.vlr := rfl
@[simp] theorem State.vcond_orVovf (s : State) (n : Nat) (p : Nat → Bool) :
    (s.orVovf n p).vcond = s.vcond := rfl
@[simp] theorem State.vovf_orVovf (s : State) (n : Nat) (p : Nat → Bool) :
    (s.orVovf n p).vovf = s.vovf ||| flagWord n p := rfl
@[simp] theorem State.vsat_orVovf (s : State) (n : Nat) (p : Nat → Bool) :
    (s.orVovf n p).vsat = s.vsat := rfl
@[simp] theorem State.cu1_orVovf (s : State) (n : Nat) (p : Nat → Bool) :
    (s.orVovf n p).cu1 = s.cu1 := rfl
@[simp] theorem State.cu2_orVovf (s : State) (n : Nat) (p : Nat → Bool) :
    (s.orVovf n p).cu2 = s.cu2 := rfl
@[simp] theorem State.mem_orVovf (s : State) (n : Nat) (p : Nat → Bool) :
    (s.orVovf n p).mem = s.mem := rfl
@[simp] theorem State.map_orVovf (s : State) (n : Nat) (p : Nat → Bool) :
    (s.orVovf n p).map = s.map := rfl
@[simp] theorem State.text_orVovf (s : State) (n : Nat) (p : Nat → Bool) :
    (s.orVovf n p).text = s.text := rfl
@[simp] theorem State.unsynced_orVovf (s : State) (n : Nat) (p : Nat → Bool) :
    (s.orVovf n p).unsynced = s.unsynced := rfl
@[simp] theorem State.trap_orVovf (s : State) (n : Nat) (p : Nat → Bool) :
    (s.orVovf n p).trap = s.trap := rfl
@[simp] theorem State.draws_orVovf (s : State) (n : Nat) (p : Nat → Bool) :
    (s.orVovf n p).draws = s.draws := rfl
@[simp] theorem State.x_orVovf (s : State) (n : Nat) (p : Nat → Bool) (q : Reg) :
    (s.orVovf n p).x q = s.x q := rfl
@[simp] theorem State.v_orVovf (s : State) (n : Nat) (p : Nat → Bool) (q : VReg) (k : Nat) :
    (s.orVovf n p).v q k = s.v q k := rfl
@[simp] theorem State.free_orVovf (s : State) (n : Nat) (p : Nat → Bool) (k : Nat) :
    (s.orVovf n p).free k = s.free k := rfl

/-! ### `State.orVsat` -/

@[simp] theorem State.cfg_orVsat (s : State) (n : Nat) (p : Nat → Bool) :
    (s.orVsat n p).cfg = s.cfg := rfl
@[simp] theorem State.gpr_orVsat (s : State) (n : Nat) (p : Nat → Bool) :
    (s.orVsat n p).gpr = s.gpr := rfl
@[simp] theorem State.hi_orVsat (s : State) (n : Nat) (p : Nat → Bool) : (s.orVsat n p).hi = s.hi := rfl
@[simp] theorem State.lo_orVsat (s : State) (n : Nat) (p : Nat → Bool) : (s.orVsat n p).lo = s.lo := rfl
@[simp] theorem State.sinceHiLo_orVsat (s : State) (n : Nat) (p : Nat → Bool) :
    (s.orVsat n p).sinceHiLo = s.sinceHiLo := rfl
@[simp] theorem State.pc_orVsat (s : State) (n : Nat) (p : Nat → Bool) : (s.orVsat n p).pc = s.pc := rfl
@[simp] theorem State.npc_orVsat (s : State) (n : Nat) (p : Nat → Bool) :
    (s.orVsat n p).npc = s.npc := rfl
@[simp] theorem State.inDelaySlot_orVsat (s : State) (n : Nat) (p : Nat → Bool) :
    (s.orVsat n p).inDelaySlot = s.inDelaySlot := rfl
@[simp] theorem State.llBit_orVsat (s : State) (n : Nat) (p : Nat → Bool) :
    (s.orVsat n p).llBit = s.llBit := rfl
@[simp] theorem State.llAddr_orVsat (s : State) (n : Nat) (p : Nat → Bool) :
    (s.orVsat n p).llAddr = s.llAddr := rfl
@[simp] theorem State.vr_orVsat (s : State) (n : Nat) (p : Nat → Bool) : (s.orVsat n p).vr = s.vr := rfl
@[simp] theorem State.vcount_orVsat (s : State) (n : Nat) (p : Nat → Bool) :
    (s.orVsat n p).vcount = s.vcount := rfl
@[simp] theorem State.vlr_orVsat (s : State) (n : Nat) (p : Nat → Bool) :
    (s.orVsat n p).vlr = s.vlr := rfl
@[simp] theorem State.vcond_orVsat (s : State) (n : Nat) (p : Nat → Bool) :
    (s.orVsat n p).vcond = s.vcond := rfl
@[simp] theorem State.vovf_orVsat (s : State) (n : Nat) (p : Nat → Bool) :
    (s.orVsat n p).vovf = s.vovf := rfl
@[simp] theorem State.vsat_orVsat (s : State) (n : Nat) (p : Nat → Bool) :
    (s.orVsat n p).vsat = s.vsat ||| flagWord n p := rfl
@[simp] theorem State.cu1_orVsat (s : State) (n : Nat) (p : Nat → Bool) :
    (s.orVsat n p).cu1 = s.cu1 := rfl
@[simp] theorem State.cu2_orVsat (s : State) (n : Nat) (p : Nat → Bool) :
    (s.orVsat n p).cu2 = s.cu2 := rfl
@[simp] theorem State.mem_orVsat (s : State) (n : Nat) (p : Nat → Bool) :
    (s.orVsat n p).mem = s.mem := rfl
@[simp] theorem State.map_orVsat (s : State) (n : Nat) (p : Nat → Bool) :
    (s.orVsat n p).map = s.map := rfl
@[simp] theorem State.text_orVsat (s : State) (n : Nat) (p : Nat → Bool) :
    (s.orVsat n p).text = s.text := rfl
@[simp] theorem State.unsynced_orVsat (s : State) (n : Nat) (p : Nat → Bool) :
    (s.orVsat n p).unsynced = s.unsynced := rfl
@[simp] theorem State.trap_orVsat (s : State) (n : Nat) (p : Nat → Bool) :
    (s.orVsat n p).trap = s.trap := rfl
@[simp] theorem State.draws_orVsat (s : State) (n : Nat) (p : Nat → Bool) :
    (s.orVsat n p).draws = s.draws := rfl
@[simp] theorem State.x_orVsat (s : State) (n : Nat) (p : Nat → Bool) (q : Reg) :
    (s.orVsat n p).x q = s.x q := rfl
@[simp] theorem State.v_orVsat (s : State) (n : Nat) (p : Nat → Bool) (q : VReg) (k : Nat) :
    (s.orVsat n p).v q k = s.v q k := rfl
@[simp] theorem State.free_orVsat (s : State) (n : Nat) (p : Nat → Bool) (k : Nat) :
    (s.orVsat n p).free k = s.free k := rfl

/-! ### `State.putVcond` -/

@[simp] theorem State.cfg_putVcond (s : State) (n : Nat) (p : Nat → Bool) :
    (s.putVcond n p).cfg = s.cfg := rfl
@[simp] theorem State.gpr_putVcond (s : State) (n : Nat) (p : Nat → Bool) :
    (s.putVcond n p).gpr = s.gpr := rfl
@[simp] theorem State.hi_putVcond (s : State) (n : Nat) (p : Nat → Bool) :
    (s.putVcond n p).hi = s.hi := rfl
@[simp] theorem State.lo_putVcond (s : State) (n : Nat) (p : Nat → Bool) :
    (s.putVcond n p).lo = s.lo := rfl
@[simp] theorem State.sinceHiLo_putVcond (s : State) (n : Nat) (p : Nat → Bool) :
    (s.putVcond n p).sinceHiLo = s.sinceHiLo := rfl
@[simp] theorem State.pc_putVcond (s : State) (n : Nat) (p : Nat → Bool) :
    (s.putVcond n p).pc = s.pc := rfl
@[simp] theorem State.npc_putVcond (s : State) (n : Nat) (p : Nat → Bool) :
    (s.putVcond n p).npc = s.npc := rfl
@[simp] theorem State.inDelaySlot_putVcond (s : State) (n : Nat) (p : Nat → Bool) :
    (s.putVcond n p).inDelaySlot = s.inDelaySlot := rfl
@[simp] theorem State.llBit_putVcond (s : State) (n : Nat) (p : Nat → Bool) :
    (s.putVcond n p).llBit = s.llBit := rfl
@[simp] theorem State.llAddr_putVcond (s : State) (n : Nat) (p : Nat → Bool) :
    (s.putVcond n p).llAddr = s.llAddr := rfl
@[simp] theorem State.vr_putVcond (s : State) (n : Nat) (p : Nat → Bool) :
    (s.putVcond n p).vr = s.vr := rfl
@[simp] theorem State.vcount_putVcond (s : State) (n : Nat) (p : Nat → Bool) :
    (s.putVcond n p).vcount = s.vcount := rfl
@[simp] theorem State.vlr_putVcond (s : State) (n : Nat) (p : Nat → Bool) :
    (s.putVcond n p).vlr = s.vlr := rfl
@[simp] theorem State.vovf_putVcond (s : State) (n : Nat) (p : Nat → Bool) :
    (s.putVcond n p).vovf = s.vovf := rfl
@[simp] theorem State.vsat_putVcond (s : State) (n : Nat) (p : Nat → Bool) :
    (s.putVcond n p).vsat = s.vsat := rfl
@[simp] theorem State.cu1_putVcond (s : State) (n : Nat) (p : Nat → Bool) :
    (s.putVcond n p).cu1 = s.cu1 := rfl
@[simp] theorem State.cu2_putVcond (s : State) (n : Nat) (p : Nat → Bool) :
    (s.putVcond n p).cu2 = s.cu2 := rfl
@[simp] theorem State.mem_putVcond (s : State) (n : Nat) (p : Nat → Bool) :
    (s.putVcond n p).mem = s.mem := rfl
@[simp] theorem State.map_putVcond (s : State) (n : Nat) (p : Nat → Bool) :
    (s.putVcond n p).map = s.map := rfl
@[simp] theorem State.text_putVcond (s : State) (n : Nat) (p : Nat → Bool) :
    (s.putVcond n p).text = s.text := rfl
@[simp] theorem State.unsynced_putVcond (s : State) (n : Nat) (p : Nat → Bool) :
    (s.putVcond n p).unsynced = s.unsynced := rfl
@[simp] theorem State.trap_putVcond (s : State) (n : Nat) (p : Nat → Bool) :
    (s.putVcond n p).trap = s.trap := rfl
@[simp] theorem State.draws_putVcond (s : State) (n : Nat) (p : Nat → Bool) :
    (s.putVcond n p).draws = s.draws := rfl
@[simp] theorem State.x_putVcond (s : State) (n : Nat) (p : Nat → Bool) (q : Reg) :
    (s.putVcond n p).x q = s.x q := rfl
@[simp] theorem State.v_putVcond (s : State) (n : Nat) (p : Nat → Bool) (q : VReg) (k : Nat) :
    (s.putVcond n p).v q k = s.v q k := rfl
@[simp] theorem State.free_putVcond (s : State) (n : Nat) (p : Nat → Bool) (k : Nat) :
    (s.putVcond n p).free k = s.free k := rfl

/-! ### `State.setHiLo` -/

@[simp] theorem State.cfg_setHiLo (s : State) (h l : Word) : (s.setHiLo h l).cfg = s.cfg := rfl
@[simp] theorem State.gpr_setHiLo (s : State) (h l : Word) : (s.setHiLo h l).gpr = s.gpr := rfl
@[simp] theorem State.hi_setHiLo (s : State) (h l : Word) : (s.setHiLo h l).hi = h := rfl
@[simp] theorem State.lo_setHiLo (s : State) (h l : Word) : (s.setHiLo h l).lo = l := rfl
@[simp] theorem State.sinceHiLo_setHiLo (s : State) (h l : Word) :
    (s.setHiLo h l).sinceHiLo = s.sinceHiLo := rfl
@[simp] theorem State.pc_setHiLo (s : State) (h l : Word) : (s.setHiLo h l).pc = s.pc := rfl
@[simp] theorem State.npc_setHiLo (s : State) (h l : Word) : (s.setHiLo h l).npc = s.npc := rfl
@[simp] theorem State.inDelaySlot_setHiLo (s : State) (h l : Word) :
    (s.setHiLo h l).inDelaySlot = s.inDelaySlot := rfl
@[simp] theorem State.llBit_setHiLo (s : State) (h l : Word) : (s.setHiLo h l).llBit = s.llBit := rfl
@[simp] theorem State.llAddr_setHiLo (s : State) (h l : Word) : (s.setHiLo h l).llAddr = s.llAddr := rfl
@[simp] theorem State.vr_setHiLo (s : State) (h l : Word) : (s.setHiLo h l).vr = s.vr := rfl
@[simp] theorem State.vcount_setHiLo (s : State) (h l : Word) : (s.setHiLo h l).vcount = s.vcount := rfl
@[simp] theorem State.vlr_setHiLo (s : State) (h l : Word) : (s.setHiLo h l).vlr = s.vlr := rfl
@[simp] theorem State.vcond_setHiLo (s : State) (h l : Word) : (s.setHiLo h l).vcond = s.vcond := rfl
@[simp] theorem State.vovf_setHiLo (s : State) (h l : Word) : (s.setHiLo h l).vovf = s.vovf := rfl
@[simp] theorem State.vsat_setHiLo (s : State) (h l : Word) : (s.setHiLo h l).vsat = s.vsat := rfl
@[simp] theorem State.cu1_setHiLo (s : State) (h l : Word) : (s.setHiLo h l).cu1 = s.cu1 := rfl
@[simp] theorem State.cu2_setHiLo (s : State) (h l : Word) : (s.setHiLo h l).cu2 = s.cu2 := rfl
@[simp] theorem State.mem_setHiLo (s : State) (h l : Word) : (s.setHiLo h l).mem = s.mem := rfl
@[simp] theorem State.map_setHiLo (s : State) (h l : Word) : (s.setHiLo h l).map = s.map := rfl
@[simp] theorem State.text_setHiLo (s : State) (h l : Word) : (s.setHiLo h l).text = s.text := rfl
@[simp] theorem State.unsynced_setHiLo (s : State) (h l : Word) :
    (s.setHiLo h l).unsynced = s.unsynced := rfl
@[simp] theorem State.trap_setHiLo (s : State) (h l : Word) : (s.setHiLo h l).trap = s.trap := rfl
@[simp] theorem State.draws_setHiLo (s : State) (h l : Word) : (s.setHiLo h l).draws = s.draws := rfl
@[simp] theorem State.x_setHiLo (s : State) (h l : Word) (q : Reg) : (s.setHiLo h l).x q = s.x q := rfl
@[simp] theorem State.v_setHiLo (s : State) (h l : Word) (q : VReg) (k : Nat) :
    (s.setHiLo h l).v q k = s.v q k := rfl
@[simp] theorem State.free_setHiLo (s : State) (h l : Word) (k : Nat) :
    (s.setHiLo h l).free k = s.free k := rfl

/-! ### `State.setProduct` -/

@[simp] theorem State.cfg_setProduct (s : State) (z : Int) : (s.setProduct z).cfg = s.cfg := rfl
@[simp] theorem State.gpr_setProduct (s : State) (z : Int) : (s.setProduct z).gpr = s.gpr := rfl
@[simp] theorem State.hi_setProduct (s : State) (z : Int) :
    (s.setProduct z).hi = trunc32 (z / 2 ^ 32) := rfl
@[simp] theorem State.lo_setProduct (s : State) (z : Int) : (s.setProduct z).lo = trunc32 z := rfl
@[simp] theorem State.sinceHiLo_setProduct (s : State) (z : Int) :
    (s.setProduct z).sinceHiLo = s.sinceHiLo := rfl
@[simp] theorem State.pc_setProduct (s : State) (z : Int) : (s.setProduct z).pc = s.pc := rfl
@[simp] theorem State.npc_setProduct (s : State) (z : Int) : (s.setProduct z).npc = s.npc := rfl
@[simp] theorem State.inDelaySlot_setProduct (s : State) (z : Int) :
    (s.setProduct z).inDelaySlot = s.inDelaySlot := rfl
@[simp] theorem State.llBit_setProduct (s : State) (z : Int) : (s.setProduct z).llBit = s.llBit := rfl
@[simp] theorem State.llAddr_setProduct (s : State) (z : Int) : (s.setProduct z).llAddr = s.llAddr := rfl
@[simp] theorem State.vr_setProduct (s : State) (z : Int) : (s.setProduct z).vr = s.vr := rfl
@[simp] theorem State.vcount_setProduct (s : State) (z : Int) : (s.setProduct z).vcount = s.vcount := rfl
@[simp] theorem State.vlr_setProduct (s : State) (z : Int) : (s.setProduct z).vlr = s.vlr := rfl
@[simp] theorem State.vcond_setProduct (s : State) (z : Int) : (s.setProduct z).vcond = s.vcond := rfl
@[simp] theorem State.vovf_setProduct (s : State) (z : Int) : (s.setProduct z).vovf = s.vovf := rfl
@[simp] theorem State.vsat_setProduct (s : State) (z : Int) : (s.setProduct z).vsat = s.vsat := rfl
@[simp] theorem State.cu1_setProduct (s : State) (z : Int) : (s.setProduct z).cu1 = s.cu1 := rfl
@[simp] theorem State.cu2_setProduct (s : State) (z : Int) : (s.setProduct z).cu2 = s.cu2 := rfl
@[simp] theorem State.mem_setProduct (s : State) (z : Int) : (s.setProduct z).mem = s.mem := rfl
@[simp] theorem State.map_setProduct (s : State) (z : Int) : (s.setProduct z).map = s.map := rfl
@[simp] theorem State.text_setProduct (s : State) (z : Int) : (s.setProduct z).text = s.text := rfl
@[simp] theorem State.unsynced_setProduct (s : State) (z : Int) :
    (s.setProduct z).unsynced = s.unsynced := rfl
@[simp] theorem State.trap_setProduct (s : State) (z : Int) : (s.setProduct z).trap = s.trap := rfl
@[simp] theorem State.draws_setProduct (s : State) (z : Int) : (s.setProduct z).draws = s.draws := rfl
@[simp] theorem State.x_setProduct (s : State) (z : Int) (q : Reg) : (s.setProduct z).x q = s.x q := rfl
@[simp] theorem State.v_setProduct (s : State) (z : Int) (q : VReg) (k : Nat) :
    (s.setProduct z).v q k = s.v q k := rfl
@[simp] theorem State.free_setProduct (s : State) (z : Int) (k : Nat) :
    (s.setProduct z).free k = s.free k := rfl

/-! ### `State.markHiLoRead` -/

@[simp] theorem State.cfg_markHiLoRead (s : State) : s.markHiLoRead.cfg = s.cfg := rfl
@[simp] theorem State.gpr_markHiLoRead (s : State) : s.markHiLoRead.gpr = s.gpr := rfl
@[simp] theorem State.hi_markHiLoRead (s : State) : s.markHiLoRead.hi = s.hi := rfl
@[simp] theorem State.lo_markHiLoRead (s : State) : s.markHiLoRead.lo = s.lo := rfl
@[simp] theorem State.sinceHiLo_markHiLoRead (s : State) : s.markHiLoRead.sinceHiLo = 0 := rfl
@[simp] theorem State.pc_markHiLoRead (s : State) : s.markHiLoRead.pc = s.pc := rfl
@[simp] theorem State.npc_markHiLoRead (s : State) : s.markHiLoRead.npc = s.npc := rfl
@[simp] theorem State.inDelaySlot_markHiLoRead (s : State) :
    s.markHiLoRead.inDelaySlot = s.inDelaySlot := rfl
@[simp] theorem State.llBit_markHiLoRead (s : State) : s.markHiLoRead.llBit = s.llBit := rfl
@[simp] theorem State.llAddr_markHiLoRead (s : State) : s.markHiLoRead.llAddr = s.llAddr := rfl
@[simp] theorem State.vr_markHiLoRead (s : State) : s.markHiLoRead.vr = s.vr := rfl
@[simp] theorem State.vcount_markHiLoRead (s : State) : s.markHiLoRead.vcount = s.vcount := rfl
@[simp] theorem State.vlr_markHiLoRead (s : State) : s.markHiLoRead.vlr = s.vlr := rfl
@[simp] theorem State.vcond_markHiLoRead (s : State) : s.markHiLoRead.vcond = s.vcond := rfl
@[simp] theorem State.vovf_markHiLoRead (s : State) : s.markHiLoRead.vovf = s.vovf := rfl
@[simp] theorem State.vsat_markHiLoRead (s : State) : s.markHiLoRead.vsat = s.vsat := rfl
@[simp] theorem State.cu1_markHiLoRead (s : State) : s.markHiLoRead.cu1 = s.cu1 := rfl
@[simp] theorem State.cu2_markHiLoRead (s : State) : s.markHiLoRead.cu2 = s.cu2 := rfl
@[simp] theorem State.mem_markHiLoRead (s : State) : s.markHiLoRead.mem = s.mem := rfl
@[simp] theorem State.map_markHiLoRead (s : State) : s.markHiLoRead.map = s.map := rfl
@[simp] theorem State.text_markHiLoRead (s : State) : s.markHiLoRead.text = s.text := rfl
@[simp] theorem State.unsynced_markHiLoRead (s : State) : s.markHiLoRead.unsynced = s.unsynced := rfl
@[simp] theorem State.trap_markHiLoRead (s : State) : s.markHiLoRead.trap = s.trap := rfl
@[simp] theorem State.draws_markHiLoRead (s : State) : s.markHiLoRead.draws = s.draws := rfl
@[simp] theorem State.x_markHiLoRead (s : State) (q : Reg) : s.markHiLoRead.x q = s.x q := rfl
@[simp] theorem State.v_markHiLoRead (s : State) (q : VReg) (k : Nat) :
    s.markHiLoRead.v q k = s.v q k := rfl
@[simp] theorem State.free_markHiLoRead (s : State) (k : Nat) : s.markHiLoRead.free k = s.free k := rfl

/-! ### `State.setLink` -/

@[simp] theorem State.cfg_setLink (s : State) (b : Bool) (a : Word) : (s.setLink b a).cfg = s.cfg := rfl
@[simp] theorem State.gpr_setLink (s : State) (b : Bool) (a : Word) : (s.setLink b a).gpr = s.gpr := rfl
@[simp] theorem State.hi_setLink (s : State) (b : Bool) (a : Word) : (s.setLink b a).hi = s.hi := rfl
@[simp] theorem State.lo_setLink (s : State) (b : Bool) (a : Word) : (s.setLink b a).lo = s.lo := rfl
@[simp] theorem State.sinceHiLo_setLink (s : State) (b : Bool) (a : Word) :
    (s.setLink b a).sinceHiLo = s.sinceHiLo := rfl
@[simp] theorem State.pc_setLink (s : State) (b : Bool) (a : Word) : (s.setLink b a).pc = s.pc := rfl
@[simp] theorem State.npc_setLink (s : State) (b : Bool) (a : Word) : (s.setLink b a).npc = s.npc := rfl
@[simp] theorem State.inDelaySlot_setLink (s : State) (b : Bool) (a : Word) :
    (s.setLink b a).inDelaySlot = s.inDelaySlot := rfl
@[simp] theorem State.llBit_setLink (s : State) (b : Bool) (a : Word) : (s.setLink b a).llBit = b := rfl
@[simp] theorem State.llAddr_setLink (s : State) (b : Bool) (a : Word) :
    (s.setLink b a).llAddr = a := rfl
@[simp] theorem State.vr_setLink (s : State) (b : Bool) (a : Word) : (s.setLink b a).vr = s.vr := rfl
@[simp] theorem State.vcount_setLink (s : State) (b : Bool) (a : Word) :
    (s.setLink b a).vcount = s.vcount := rfl
@[simp] theorem State.vlr_setLink (s : State) (b : Bool) (a : Word) : (s.setLink b a).vlr = s.vlr := rfl
@[simp] theorem State.vcond_setLink (s : State) (b : Bool) (a : Word) :
    (s.setLink b a).vcond = s.vcond := rfl
@[simp] theorem State.vovf_setLink (s : State) (b : Bool) (a : Word) :
    (s.setLink b a).vovf = s.vovf := rfl
@[simp] theorem State.vsat_setLink (s : State) (b : Bool) (a : Word) :
    (s.setLink b a).vsat = s.vsat := rfl
@[simp] theorem State.cu1_setLink (s : State) (b : Bool) (a : Word) : (s.setLink b a).cu1 = s.cu1 := rfl
@[simp] theorem State.cu2_setLink (s : State) (b : Bool) (a : Word) : (s.setLink b a).cu2 = s.cu2 := rfl
@[simp] theorem State.mem_setLink (s : State) (b : Bool) (a : Word) : (s.setLink b a).mem = s.mem := rfl
@[simp] theorem State.map_setLink (s : State) (b : Bool) (a : Word) : (s.setLink b a).map = s.map := rfl
@[simp] theorem State.text_setLink (s : State) (b : Bool) (a : Word) :
    (s.setLink b a).text = s.text := rfl
@[simp] theorem State.unsynced_setLink (s : State) (b : Bool) (a : Word) :
    (s.setLink b a).unsynced = s.unsynced := rfl
@[simp] theorem State.trap_setLink (s : State) (b : Bool) (a : Word) :
    (s.setLink b a).trap = s.trap := rfl
@[simp] theorem State.draws_setLink (s : State) (b : Bool) (a : Word) :
    (s.setLink b a).draws = s.draws := rfl
@[simp] theorem State.x_setLink (s : State) (b : Bool) (a : Word) (q : Reg) :
    (s.setLink b a).x q = s.x q := rfl
@[simp] theorem State.v_setLink (s : State) (b : Bool) (a : Word) (q : VReg) (k : Nat) :
    (s.setLink b a).v q k = s.v q k := rfl
@[simp] theorem State.free_setLink (s : State) (b : Bool) (a : Word) (k : Nat) :
    (s.setLink b a).free k = s.free k := rfl

/-! ### `State.synced` -/

@[simp] theorem State.cfg_synced (s : State) : s.synced.cfg = s.cfg := rfl
@[simp] theorem State.gpr_synced (s : State) : s.synced.gpr = s.gpr := rfl
@[simp] theorem State.hi_synced (s : State) : s.synced.hi = s.hi := rfl
@[simp] theorem State.lo_synced (s : State) : s.synced.lo = s.lo := rfl
@[simp] theorem State.sinceHiLo_synced (s : State) : s.synced.sinceHiLo = s.sinceHiLo := rfl
@[simp] theorem State.pc_synced (s : State) : s.synced.pc = s.pc := rfl
@[simp] theorem State.npc_synced (s : State) : s.synced.npc = s.npc := rfl
@[simp] theorem State.inDelaySlot_synced (s : State) : s.synced.inDelaySlot = s.inDelaySlot := rfl
@[simp] theorem State.llBit_synced (s : State) : s.synced.llBit = s.llBit := rfl
@[simp] theorem State.llAddr_synced (s : State) : s.synced.llAddr = s.llAddr := rfl
@[simp] theorem State.vr_synced (s : State) : s.synced.vr = s.vr := rfl
@[simp] theorem State.vcount_synced (s : State) : s.synced.vcount = s.vcount := rfl
@[simp] theorem State.vlr_synced (s : State) : s.synced.vlr = s.vlr := rfl
@[simp] theorem State.vcond_synced (s : State) : s.synced.vcond = s.vcond := rfl
@[simp] theorem State.vovf_synced (s : State) : s.synced.vovf = s.vovf := rfl
@[simp] theorem State.vsat_synced (s : State) : s.synced.vsat = s.vsat := rfl
@[simp] theorem State.cu1_synced (s : State) : s.synced.cu1 = s.cu1 := rfl
@[simp] theorem State.cu2_synced (s : State) : s.synced.cu2 = s.cu2 := rfl
@[simp] theorem State.mem_synced (s : State) : s.synced.mem = s.mem := rfl
@[simp] theorem State.map_synced (s : State) : s.synced.map = s.map := rfl
@[simp] theorem State.text_synced (s : State) : s.synced.text = s.text := rfl
@[simp] theorem State.unsynced_synced (s : State) : s.synced.unsynced = [] := rfl
@[simp] theorem State.trap_synced (s : State) : s.synced.trap = s.trap := rfl
@[simp] theorem State.draws_synced (s : State) : s.synced.draws = s.draws := rfl
@[simp] theorem State.x_synced (s : State) (q : Reg) : s.synced.x q = s.x q := rfl
@[simp] theorem State.v_synced (s : State) (q : VReg) (k : Nat) :
    s.synced.v q k = s.v q k := rfl
@[simp] theorem State.free_synced (s : State) (k : Nat) : s.synced.free k = s.free k := rfl

/-! ### `State.drawVcount` -/

@[simp] theorem State.cfg_drawVcount (s : State) : s.drawVcount.cfg = s.cfg := rfl
@[simp] theorem State.gpr_drawVcount (s : State) : s.drawVcount.gpr = s.gpr := rfl
@[simp] theorem State.hi_drawVcount (s : State) : s.drawVcount.hi = s.hi := rfl
@[simp] theorem State.lo_drawVcount (s : State) : s.drawVcount.lo = s.lo := rfl
@[simp] theorem State.sinceHiLo_drawVcount (s : State) : s.drawVcount.sinceHiLo = s.sinceHiLo := rfl
@[simp] theorem State.pc_drawVcount (s : State) : s.drawVcount.pc = s.pc := rfl
@[simp] theorem State.npc_drawVcount (s : State) : s.drawVcount.npc = s.npc := rfl
@[simp] theorem State.inDelaySlot_drawVcount (s : State) :
    s.drawVcount.inDelaySlot = s.inDelaySlot := rfl
@[simp] theorem State.llBit_drawVcount (s : State) : s.drawVcount.llBit = s.llBit := rfl
@[simp] theorem State.llAddr_drawVcount (s : State) : s.drawVcount.llAddr = s.llAddr := rfl
@[simp] theorem State.vr_drawVcount (s : State) : s.drawVcount.vr = s.vr := rfl
@[simp] theorem State.vcount_drawVcount (s : State) : s.drawVcount.vcount = s.free 0 := rfl
@[simp] theorem State.vlr_drawVcount (s : State) : s.drawVcount.vlr = s.vlr := rfl
@[simp] theorem State.vcond_drawVcount (s : State) : s.drawVcount.vcond = s.vcond := rfl
@[simp] theorem State.vovf_drawVcount (s : State) : s.drawVcount.vovf = s.vovf := rfl
@[simp] theorem State.vsat_drawVcount (s : State) : s.drawVcount.vsat = s.vsat := rfl
@[simp] theorem State.cu1_drawVcount (s : State) : s.drawVcount.cu1 = s.cu1 := rfl
@[simp] theorem State.cu2_drawVcount (s : State) : s.drawVcount.cu2 = s.cu2 := rfl
@[simp] theorem State.mem_drawVcount (s : State) : s.drawVcount.mem = s.mem := rfl
@[simp] theorem State.map_drawVcount (s : State) : s.drawVcount.map = s.map := rfl
@[simp] theorem State.text_drawVcount (s : State) : s.drawVcount.text = s.text := rfl
@[simp] theorem State.unsynced_drawVcount (s : State) : s.drawVcount.unsynced = s.unsynced := rfl
@[simp] theorem State.trap_drawVcount (s : State) : s.drawVcount.trap = s.trap := rfl
@[simp] theorem State.draws_drawVcount (s : State) : s.drawVcount.draws = s.draws + 1 := rfl
@[simp] theorem State.x_drawVcount (s : State) (q : Reg) : s.drawVcount.x q = s.x q := rfl
@[simp] theorem State.v_drawVcount (s : State) (q : VReg) (k : Nat) :
    s.drawVcount.v q k = s.v q k := rfl

/-! ### `State.setVlr` -/

@[simp] theorem State.cfg_setVlr (s : State) (w : Word) : (s.setVlr w).cfg = s.cfg := rfl
@[simp] theorem State.gpr_setVlr (s : State) (w : Word) : (s.setVlr w).gpr = s.gpr := rfl
@[simp] theorem State.hi_setVlr (s : State) (w : Word) : (s.setVlr w).hi = s.hi := rfl
@[simp] theorem State.lo_setVlr (s : State) (w : Word) : (s.setVlr w).lo = s.lo := rfl
@[simp] theorem State.sinceHiLo_setVlr (s : State) (w : Word) :
    (s.setVlr w).sinceHiLo = s.sinceHiLo := rfl
@[simp] theorem State.pc_setVlr (s : State) (w : Word) : (s.setVlr w).pc = s.pc := rfl
@[simp] theorem State.npc_setVlr (s : State) (w : Word) : (s.setVlr w).npc = s.npc := rfl
@[simp] theorem State.inDelaySlot_setVlr (s : State) (w : Word) :
    (s.setVlr w).inDelaySlot = s.inDelaySlot := rfl
@[simp] theorem State.llBit_setVlr (s : State) (w : Word) : (s.setVlr w).llBit = s.llBit := rfl
@[simp] theorem State.llAddr_setVlr (s : State) (w : Word) : (s.setVlr w).llAddr = s.llAddr := rfl
@[simp] theorem State.vr_setVlr (s : State) (w : Word) : (s.setVlr w).vr = s.vr := rfl
@[simp] theorem State.vcount_setVlr (s : State) (w : Word) : (s.setVlr w).vcount = s.vcount := rfl
@[simp] theorem State.vlr_setVlr (s : State) (w : Word) : (s.setVlr w).vlr = w.setWidth 8 := rfl
@[simp] theorem State.vcond_setVlr (s : State) (w : Word) : (s.setVlr w).vcond = s.vcond := rfl
@[simp] theorem State.vovf_setVlr (s : State) (w : Word) : (s.setVlr w).vovf = s.vovf := rfl
@[simp] theorem State.vsat_setVlr (s : State) (w : Word) : (s.setVlr w).vsat = s.vsat := rfl
@[simp] theorem State.cu1_setVlr (s : State) (w : Word) : (s.setVlr w).cu1 = s.cu1 := rfl
@[simp] theorem State.cu2_setVlr (s : State) (w : Word) : (s.setVlr w).cu2 = s.cu2 := rfl
@[simp] theorem State.mem_setVlr (s : State) (w : Word) : (s.setVlr w).mem = s.mem := rfl
@[simp] theorem State.map_setVlr (s : State) (w : Word) : (s.setVlr w).map = s.map := rfl
@[simp] theorem State.text_setVlr (s : State) (w : Word) : (s.setVlr w).text = s.text := rfl
@[simp] theorem State.unsynced_setVlr (s : State) (w : Word) : (s.setVlr w).unsynced = s.unsynced := rfl
@[simp] theorem State.trap_setVlr (s : State) (w : Word) : (s.setVlr w).trap = s.trap := rfl
@[simp] theorem State.draws_setVlr (s : State) (w : Word) : (s.setVlr w).draws = s.draws := rfl
@[simp] theorem State.x_setVlr (s : State) (w : Word) (q : Reg) : (s.setVlr w).x q = s.x q := rfl
@[simp] theorem State.v_setVlr (s : State) (w : Word) (q : VReg) (k : Nat) :
    (s.setVlr w).v q k = s.v q k := rfl
@[simp] theorem State.free_setVlr (s : State) (w : Word) (k : Nat) :
    (s.setVlr w).free k = s.free k := rfl

/-! ### `State.setVcond` -/

@[simp] theorem State.cfg_setVcond (s : State) (w : Word) : (s.setVcond w).cfg = s.cfg := rfl
@[simp] theorem State.gpr_setVcond (s : State) (w : Word) : (s.setVcond w).gpr = s.gpr := rfl
@[simp] theorem State.hi_setVcond (s : State) (w : Word) : (s.setVcond w).hi = s.hi := rfl
@[simp] theorem State.lo_setVcond (s : State) (w : Word) : (s.setVcond w).lo = s.lo := rfl
@[simp] theorem State.sinceHiLo_setVcond (s : State) (w : Word) :
    (s.setVcond w).sinceHiLo = s.sinceHiLo := rfl
@[simp] theorem State.pc_setVcond (s : State) (w : Word) : (s.setVcond w).pc = s.pc := rfl
@[simp] theorem State.npc_setVcond (s : State) (w : Word) : (s.setVcond w).npc = s.npc := rfl
@[simp] theorem State.inDelaySlot_setVcond (s : State) (w : Word) :
    (s.setVcond w).inDelaySlot = s.inDelaySlot := rfl
@[simp] theorem State.llBit_setVcond (s : State) (w : Word) : (s.setVcond w).llBit = s.llBit := rfl
@[simp] theorem State.llAddr_setVcond (s : State) (w : Word) : (s.setVcond w).llAddr = s.llAddr := rfl
@[simp] theorem State.vr_setVcond (s : State) (w : Word) : (s.setVcond w).vr = s.vr := rfl
@[simp] theorem State.vcount_setVcond (s : State) (w : Word) : (s.setVcond w).vcount = s.vcount := rfl
@[simp] theorem State.vlr_setVcond (s : State) (w : Word) : (s.setVcond w).vlr = s.vlr := rfl
@[simp] theorem State.vcond_setVcond (s : State) (w : Word) : (s.setVcond w).vcond = w := rfl
@[simp] theorem State.vovf_setVcond (s : State) (w : Word) : (s.setVcond w).vovf = s.vovf := rfl
@[simp] theorem State.vsat_setVcond (s : State) (w : Word) : (s.setVcond w).vsat = s.vsat := rfl
@[simp] theorem State.cu1_setVcond (s : State) (w : Word) : (s.setVcond w).cu1 = s.cu1 := rfl
@[simp] theorem State.cu2_setVcond (s : State) (w : Word) : (s.setVcond w).cu2 = s.cu2 := rfl
@[simp] theorem State.mem_setVcond (s : State) (w : Word) : (s.setVcond w).mem = s.mem := rfl
@[simp] theorem State.map_setVcond (s : State) (w : Word) : (s.setVcond w).map = s.map := rfl
@[simp] theorem State.text_setVcond (s : State) (w : Word) : (s.setVcond w).text = s.text := rfl
@[simp] theorem State.unsynced_setVcond (s : State) (w : Word) :
    (s.setVcond w).unsynced = s.unsynced := rfl
@[simp] theorem State.trap_setVcond (s : State) (w : Word) : (s.setVcond w).trap = s.trap := rfl
@[simp] theorem State.draws_setVcond (s : State) (w : Word) : (s.setVcond w).draws = s.draws := rfl
@[simp] theorem State.x_setVcond (s : State) (w : Word) (q : Reg) : (s.setVcond w).x q = s.x q := rfl
@[simp] theorem State.v_setVcond (s : State) (w : Word) (q : VReg) (k : Nat) :
    (s.setVcond w).v q k = s.v q k := rfl
@[simp] theorem State.free_setVcond (s : State) (w : Word) (k : Nat) :
    (s.setVcond w).free k = s.free k := rfl

/-! ### `State.setVovf` -/

@[simp] theorem State.cfg_setVovf (s : State) (w : Word) : (s.setVovf w).cfg = s.cfg := rfl
@[simp] theorem State.gpr_setVovf (s : State) (w : Word) : (s.setVovf w).gpr = s.gpr := rfl
@[simp] theorem State.hi_setVovf (s : State) (w : Word) : (s.setVovf w).hi = s.hi := rfl
@[simp] theorem State.lo_setVovf (s : State) (w : Word) : (s.setVovf w).lo = s.lo := rfl
@[simp] theorem State.sinceHiLo_setVovf (s : State) (w : Word) :
    (s.setVovf w).sinceHiLo = s.sinceHiLo := rfl
@[simp] theorem State.pc_setVovf (s : State) (w : Word) : (s.setVovf w).pc = s.pc := rfl
@[simp] theorem State.npc_setVovf (s : State) (w : Word) : (s.setVovf w).npc = s.npc := rfl
@[simp] theorem State.inDelaySlot_setVovf (s : State) (w : Word) :
    (s.setVovf w).inDelaySlot = s.inDelaySlot := rfl
@[simp] theorem State.llBit_setVovf (s : State) (w : Word) : (s.setVovf w).llBit = s.llBit := rfl
@[simp] theorem State.llAddr_setVovf (s : State) (w : Word) : (s.setVovf w).llAddr = s.llAddr := rfl
@[simp] theorem State.vr_setVovf (s : State) (w : Word) : (s.setVovf w).vr = s.vr := rfl
@[simp] theorem State.vcount_setVovf (s : State) (w : Word) : (s.setVovf w).vcount = s.vcount := rfl
@[simp] theorem State.vlr_setVovf (s : State) (w : Word) : (s.setVovf w).vlr = s.vlr := rfl
@[simp] theorem State.vcond_setVovf (s : State) (w : Word) : (s.setVovf w).vcond = s.vcond := rfl
@[simp] theorem State.vovf_setVovf (s : State) (w : Word) : (s.setVovf w).vovf = w := rfl
@[simp] theorem State.vsat_setVovf (s : State) (w : Word) : (s.setVovf w).vsat = s.vsat := rfl
@[simp] theorem State.cu1_setVovf (s : State) (w : Word) : (s.setVovf w).cu1 = s.cu1 := rfl
@[simp] theorem State.cu2_setVovf (s : State) (w : Word) : (s.setVovf w).cu2 = s.cu2 := rfl
@[simp] theorem State.mem_setVovf (s : State) (w : Word) : (s.setVovf w).mem = s.mem := rfl
@[simp] theorem State.map_setVovf (s : State) (w : Word) : (s.setVovf w).map = s.map := rfl
@[simp] theorem State.text_setVovf (s : State) (w : Word) : (s.setVovf w).text = s.text := rfl
@[simp] theorem State.unsynced_setVovf (s : State) (w : Word) :
    (s.setVovf w).unsynced = s.unsynced := rfl
@[simp] theorem State.trap_setVovf (s : State) (w : Word) : (s.setVovf w).trap = s.trap := rfl
@[simp] theorem State.draws_setVovf (s : State) (w : Word) : (s.setVovf w).draws = s.draws := rfl
@[simp] theorem State.x_setVovf (s : State) (w : Word) (q : Reg) : (s.setVovf w).x q = s.x q := rfl
@[simp] theorem State.v_setVovf (s : State) (w : Word) (q : VReg) (k : Nat) :
    (s.setVovf w).v q k = s.v q k := rfl
@[simp] theorem State.free_setVovf (s : State) (w : Word) (k : Nat) :
    (s.setVovf w).free k = s.free k := rfl

/-! ### `State.setVsat` -/

@[simp] theorem State.cfg_setVsat (s : State) (w : Word) : (s.setVsat w).cfg = s.cfg := rfl
@[simp] theorem State.gpr_setVsat (s : State) (w : Word) : (s.setVsat w).gpr = s.gpr := rfl
@[simp] theorem State.hi_setVsat (s : State) (w : Word) : (s.setVsat w).hi = s.hi := rfl
@[simp] theorem State.lo_setVsat (s : State) (w : Word) : (s.setVsat w).lo = s.lo := rfl
@[simp] theorem State.sinceHiLo_setVsat (s : State) (w : Word) :
    (s.setVsat w).sinceHiLo = s.sinceHiLo := rfl
@[simp] theorem State.pc_setVsat (s : State) (w : Word) : (s.setVsat w).pc = s.pc := rfl
@[simp] theorem State.npc_setVsat (s : State) (w : Word) : (s.setVsat w).npc = s.npc := rfl
@[simp] theorem State.inDelaySlot_setVsat (s : State) (w : Word) :
    (s.setVsat w).inDelaySlot = s.inDelaySlot := rfl
@[simp] theorem State.llBit_setVsat (s : State) (w : Word) : (s.setVsat w).llBit = s.llBit := rfl
@[simp] theorem State.llAddr_setVsat (s : State) (w : Word) : (s.setVsat w).llAddr = s.llAddr := rfl
@[simp] theorem State.vr_setVsat (s : State) (w : Word) : (s.setVsat w).vr = s.vr := rfl
@[simp] theorem State.vcount_setVsat (s : State) (w : Word) : (s.setVsat w).vcount = s.vcount := rfl
@[simp] theorem State.vlr_setVsat (s : State) (w : Word) : (s.setVsat w).vlr = s.vlr := rfl
@[simp] theorem State.vcond_setVsat (s : State) (w : Word) : (s.setVsat w).vcond = s.vcond := rfl
@[simp] theorem State.vovf_setVsat (s : State) (w : Word) : (s.setVsat w).vovf = s.vovf := rfl
@[simp] theorem State.vsat_setVsat (s : State) (w : Word) : (s.setVsat w).vsat = w := rfl
@[simp] theorem State.cu1_setVsat (s : State) (w : Word) : (s.setVsat w).cu1 = s.cu1 := rfl
@[simp] theorem State.cu2_setVsat (s : State) (w : Word) : (s.setVsat w).cu2 = s.cu2 := rfl
@[simp] theorem State.mem_setVsat (s : State) (w : Word) : (s.setVsat w).mem = s.mem := rfl
@[simp] theorem State.map_setVsat (s : State) (w : Word) : (s.setVsat w).map = s.map := rfl
@[simp] theorem State.text_setVsat (s : State) (w : Word) : (s.setVsat w).text = s.text := rfl
@[simp] theorem State.unsynced_setVsat (s : State) (w : Word) :
    (s.setVsat w).unsynced = s.unsynced := rfl
@[simp] theorem State.trap_setVsat (s : State) (w : Word) : (s.setVsat w).trap = s.trap := rfl
@[simp] theorem State.draws_setVsat (s : State) (w : Word) : (s.setVsat w).draws = s.draws := rfl
@[simp] theorem State.x_setVsat (s : State) (w : Word) (q : Reg) : (s.setVsat w).x q = s.x q := rfl
@[simp] theorem State.v_setVsat (s : State) (w : Word) (q : VReg) (k : Nat) :
    (s.setVsat w).v q k = s.v q k := rfl
@[simp] theorem State.free_setVsat (s : State) (w : Word) (k : Nat) :
    (s.setVsat w).free k = s.free k := rfl

/-! ### `State.vectorStoreLink` -/

@[simp] theorem State.cfg_vectorStoreLink (s : State) (l : List Nat) (b : Bool) :
    (s.vectorStoreLink l b).cfg = s.cfg := rfl
@[simp] theorem State.gpr_vectorStoreLink (s : State) (l : List Nat) (b : Bool) :
    (s.vectorStoreLink l b).gpr = s.gpr := rfl
@[simp] theorem State.hi_vectorStoreLink (s : State) (l : List Nat) (b : Bool) :
    (s.vectorStoreLink l b).hi = s.hi := rfl
@[simp] theorem State.lo_vectorStoreLink (s : State) (l : List Nat) (b : Bool) :
    (s.vectorStoreLink l b).lo = s.lo := rfl
@[simp] theorem State.sinceHiLo_vectorStoreLink (s : State) (l : List Nat) (b : Bool) :
    (s.vectorStoreLink l b).sinceHiLo = s.sinceHiLo := rfl
@[simp] theorem State.pc_vectorStoreLink (s : State) (l : List Nat) (b : Bool) :
    (s.vectorStoreLink l b).pc = s.pc := rfl
@[simp] theorem State.npc_vectorStoreLink (s : State) (l : List Nat) (b : Bool) :
    (s.vectorStoreLink l b).npc = s.npc := rfl
@[simp] theorem State.inDelaySlot_vectorStoreLink (s : State) (l : List Nat) (b : Bool) :
    (s.vectorStoreLink l b).inDelaySlot = s.inDelaySlot := rfl
@[simp] theorem State.llAddr_vectorStoreLink (s : State) (l : List Nat) (b : Bool) :
    (s.vectorStoreLink l b).llAddr = s.llAddr := rfl
@[simp] theorem State.vr_vectorStoreLink (s : State) (l : List Nat) (b : Bool) :
    (s.vectorStoreLink l b).vr = s.vr := rfl
@[simp] theorem State.vcount_vectorStoreLink (s : State) (l : List Nat) (b : Bool) :
    (s.vectorStoreLink l b).vcount = s.vcount := rfl
@[simp] theorem State.vlr_vectorStoreLink (s : State) (l : List Nat) (b : Bool) :
    (s.vectorStoreLink l b).vlr = s.vlr := rfl
@[simp] theorem State.vcond_vectorStoreLink (s : State) (l : List Nat) (b : Bool) :
    (s.vectorStoreLink l b).vcond = s.vcond := rfl
@[simp] theorem State.vovf_vectorStoreLink (s : State) (l : List Nat) (b : Bool) :
    (s.vectorStoreLink l b).vovf = s.vovf := rfl
@[simp] theorem State.vsat_vectorStoreLink (s : State) (l : List Nat) (b : Bool) :
    (s.vectorStoreLink l b).vsat = s.vsat := rfl
@[simp] theorem State.cu1_vectorStoreLink (s : State) (l : List Nat) (b : Bool) :
    (s.vectorStoreLink l b).cu1 = s.cu1 := rfl
@[simp] theorem State.cu2_vectorStoreLink (s : State) (l : List Nat) (b : Bool) :
    (s.vectorStoreLink l b).cu2 = s.cu2 := rfl
@[simp] theorem State.mem_vectorStoreLink (s : State) (l : List Nat) (b : Bool) :
    (s.vectorStoreLink l b).mem = s.mem := rfl
@[simp] theorem State.map_vectorStoreLink (s : State) (l : List Nat) (b : Bool) :
    (s.vectorStoreLink l b).map = s.map := rfl
@[simp] theorem State.text_vectorStoreLink (s : State) (l : List Nat) (b : Bool) :
    (s.vectorStoreLink l b).text = s.text := rfl
@[simp] theorem State.unsynced_vectorStoreLink (s : State) (l : List Nat) (b : Bool) :
    (s.vectorStoreLink l b).unsynced = s.unsynced := rfl
@[simp] theorem State.trap_vectorStoreLink (s : State) (l : List Nat) (b : Bool) :
    (s.vectorStoreLink l b).trap = s.trap := rfl
@[simp] theorem State.draws_vectorStoreLink (s : State) (l : List Nat) (b : Bool) :
    (s.vectorStoreLink l b).draws = s.draws := rfl
@[simp] theorem State.x_vectorStoreLink (s : State) (l : List Nat) (b : Bool) (q : Reg) :
    (s.vectorStoreLink l b).x q = s.x q := rfl
@[simp] theorem State.v_vectorStoreLink (s : State) (l : List Nat) (b : Bool) (q : VReg) (k : Nat) :
    (s.vectorStoreLink l b).v q k = s.v q k := rfl
@[simp] theorem State.free_vectorStoreLink (s : State) (l : List Nat) (b : Bool) (k : Nat) :
    (s.vectorStoreLink l b).free k = s.free k := rfl

end Sys2Proof.Machine
end

