-- ==== Sys2Proof/Laws/Memory.lean ====
section
/-! SUPPORT. Memory: every operation keeps the canonical form (log 7), a read after a write gives the byte
written, and a write leaves every other byte alone. -/

namespace Sys2Proof.Machine

/-! ## The canonical form is kept -/

theorem Memory.wfFrom_mono (m : Memory) (lo lo' : Nat) (h : lo' ≤ lo) (hm : Memory.wfFrom lo m = true) :
    Memory.wfFrom lo' m = true := by
  cases m with
  | nil => rfl
  | cons c m =>
    obtain ⟨a, w⟩ := c
    simp only [Memory.wfFrom, Bool.and_eq_true, decide_eq_true_eq] at hm ⊢
    exact ⟨⟨⟨by omega, hm.1.1.2⟩, hm.1.2⟩, hm.2⟩

theorem Memory.wfFrom_write (m : Memory) (lo a : Nat) (w : Byte) (hlo : lo ≤ a) (ha : a < 2 ^ 32)
    (hm : Memory.wfFrom lo m = true) : Memory.wfFrom lo (m.write a w) = true := by
  induction m generalizing lo with
  | nil =>
    simp only [Memory.write]
    split_ifs with hw
    · rfl
    · simp only [Memory.wfFrom, Bool.and_eq_true, decide_eq_true_eq]
      exact ⟨⟨⟨hlo, ha⟩, by simpa using hw⟩, trivial⟩
  | cons c m ih =>
    obtain ⟨b, u⟩ := c
    simp only [Memory.wfFrom, Bool.and_eq_true, decide_eq_true_eq] at hm
    obtain ⟨⟨⟨h1, h2⟩, h3⟩, h4⟩ := hm
    simp only [Memory.write]
    split_ifs with hab hw hab' hw
    · simp only [Memory.wfFrom, Bool.and_eq_true, decide_eq_true_eq]
      exact ⟨⟨⟨h1, h2⟩, h3⟩, h4⟩
    · simp only [Memory.wfFrom, Bool.and_eq_true, decide_eq_true_eq]
      exact ⟨⟨⟨hlo, ha⟩, by simpa using hw⟩, ⟨⟨by omega, h2⟩, h3⟩, h4⟩
    · exact Memory.wfFrom_mono m (b + 1) lo (by omega) h4
    · simp only [Memory.wfFrom, Bool.and_eq_true, decide_eq_true_eq]
      exact ⟨⟨⟨hlo, ha⟩, by simpa using hw⟩, hab' ▸ h4⟩
    · simp only [Memory.wfFrom, Bool.and_eq_true, decide_eq_true_eq]
      exact ⟨⟨⟨h1, h2⟩, h3⟩, ih (b + 1) (by omega) h4⟩

theorem Memory.wf_write (m : Memory) (a : Nat) (w : Byte) (ha : a < 2 ^ 32) (hm : m.wf = true) :
    (m.write a w).wf = true :=
  Memory.wfFrom_write m 0 a w (Nat.zero_le a) ha hm

theorem Memory.wf_writeAll (m : Memory) (cells : List Host.Cell) (hc : ∀ c ∈ cells, c.1 < 2 ^ 32)
    (hm : m.wf = true) : (m.writeAll cells).wf = true := by
  induction cells generalizing m with
  | nil => exact hm
  | cons c cs ih =>
    exact ih (m.write c.1 c.2) (fun d hd => hc d (by simp [hd]))
      (Memory.wf_write m c.1 c.2 (hc c (by simp)) hm)

theorem reset_mem_wf : State.reset.mem.wf = true := rfl

/-! ## Reading after writing -/

/-- A write leaves every other byte alone, whatever the list. -/
theorem Memory.read_write_other (m : Memory) (a b : Nat) (w : Byte) (h : b ≠ a) :
    (m.write a w).read b = m.read b := by
  induction m with
  | nil =>
    simp only [Memory.write]
    split_ifs with hw
    · rfl
    · simp [Memory.read, h.symm]
  | cons c m ih =>
    obtain ⟨d, u⟩ := c
    simp only [Memory.write]
    split_ifs with hab hw hab' hw
    · rfl
    · simp [Memory.read, h.symm]
    · have : d ≠ b := fun e => h (e.symm.trans hab'.symm)
      simp [Memory.read, this]
    · have : d ≠ b := fun e => h (e.symm.trans hab'.symm)
      simp [Memory.read, h.symm, this]
    · simp [Memory.read, ih]

theorem Memory.read_of_wfFrom (m : Memory) (lo a : Nat) (ha : a < lo) (hm : Memory.wfFrom lo m = true) :
    m.read a = 0 := by
  induction m generalizing lo with
  | nil => rfl
  | cons c m ih =>
    obtain ⟨b, u⟩ := c
    simp only [Memory.wfFrom, Bool.and_eq_true, decide_eq_true_eq] at hm
    have : b ≠ a := by omega
    simp [Memory.read, this, ih (b + 1) (by omega) hm.2]

theorem Memory.read_write_same_from (m : Memory) (lo a : Nat) (w : Byte)
    (hm : Memory.wfFrom lo m = true) : (m.write a w).read a = w := by
  induction m generalizing lo with
  | nil =>
    simp only [Memory.write]
    split_ifs with hw
    · simp [Memory.read, hw]
    · simp [Memory.read]
  | cons c m ih =>
    obtain ⟨b, u⟩ := c
    simp only [Memory.wfFrom, Bool.and_eq_true, decide_eq_true_eq] at hm
    obtain ⟨⟨⟨h1, h2⟩, h3⟩, h4⟩ := hm
    simp only [Memory.write]
    split_ifs with hab hw hab' hw
    · have : b ≠ a := by omega
      simp [Memory.read, this, hw, Memory.read_of_wfFrom m (b + 1) a (by omega) h4]
    · simp [Memory.read]
    · simp [hw, Memory.read_of_wfFrom m (b + 1) a (by omega) h4]
    · simp [Memory.read]
    · have : b ≠ a := by omega
      simp [Memory.read, this, ih (b + 1) h4]

/-- A read after a write to the same byte gives the byte written. -/
theorem Memory.read_write_same (m : Memory) (a : Nat) (w : Byte) (hm : m.wf = true) :
    (m.write a w).read a = w :=
  Memory.read_write_same_from m 0 a w hm

/-- Writing many bytes leaves every byte outside them alone. -/
theorem Memory.read_writeAll_other (m : Memory) (cells : List Host.Cell) (b : Nat)
    (h : ∀ c ∈ cells, c.1 ≠ b) : (m.writeAll cells).read b = m.read b := by
  induction cells generalizing m with
  | nil => rfl
  | cons c cs ih =>
    have hc : b ≠ c.1 := fun e => h c (by simp) e.symm
    exact (ih (m.write c.1 c.2) fun d hd => h d (by simp [hd])).trans
      (Memory.read_write_other m c.1 b c.2 hc)

/-- Writing many bytes at different addresses: each address reads the byte written to it. -/
theorem Memory.read_writeAll_mem (m : Memory) (cells : List Host.Cell) (c : Host.Cell)
    (hm : m.wf = true) (hc : c ∈ cells) (hb : ∀ d ∈ cells, d.1 < 2 ^ 32)
    (hn : (cells.map fun d => d.1).Nodup) : (m.writeAll cells).read c.1 = c.2 := by
  induction cells generalizing m with
  | nil => simp at hc
  | cons d ds ih =>
    simp only [List.map_cons, List.nodup_cons] at hn
    have hw : (m.write d.1 d.2).wf = true := Memory.wf_write m d.1 d.2 (hb d (by simp)) hm
    rcases List.mem_cons.1 hc with rfl | hc
    · refine (Memory.read_writeAll_other (m.write c.1 c.2) ds c.1 ?_).trans
        (Memory.read_write_same m c.1 c.2 hm)
      intro e he heq
      exact hn.1 (List.mem_map.2 ⟨e, he, heq⟩)
    · exact ih (m.write d.1 d.2) hw hc (fun e he => hb e (by simp [he])) hn.2

/-! ## The bytes of an item -/

@[simp] theorem length_byteAddrs (a : Word) (n : Nat) : (byteAddrs a n).length = n := by
  simp [byteAddrs]

@[simp] theorem length_splitBytes (e : Endian) (n : Nat) (v : Word) : (splitBytes e n v).length = n := by
  simp [splitBytes]

theorem byteAddrs_lt (a : Word) (n b : Nat) (h : b ∈ byteAddrs a n) : b < 2 ^ 32 := by
  simp only [byteAddrs, List.mem_map] at h
  obtain ⟨k, -, rfl⟩ := h
  exact Nat.mod_lt _ (by decide)

theorem mem_byteAddrs_of_storeCells (e : Endian) (a : Word) (n : Nat) (v : Word) (c : Host.Cell)
    (h : c ∈ storeCells e a n v) : c.1 ∈ byteAddrs a n :=
  (List.of_mem_zip h).1

theorem map_fst_storeCells (e : Endian) (a : Word) (n : Nat) (v : Word) :
    (storeCells e a n v).map (fun c => c.1) = byteAddrs a n := by
  simp [storeCells, List.map_fst_zip]

theorem nodup_byteAddrs (a : Word) (n : Nat) (hn : n ≤ 2 ^ 32) : (byteAddrs a n).Nodup := by
  unfold byteAddrs
  refine List.Nodup.map_on ?_ List.nodup_range
  intro x hx y hy h
  simp only [List.mem_range] at hx hy
  omega

end Sys2Proof.Machine
end

