-- ==== Sys2Proof/Laws/Registers.lean ====
section
/-! SUPPORT. What reading a register gives after a write: scalar registers (R21), vector registers (R27, R30),
and the flag words (R36 to R38). -/

namespace Sys2Proof.Machine

/-! ## Scalar registers -/

@[simp] theorem State.x_zero (s : State) : s.x 0#5 = 0#32 := by
  simp [State.x]

/-- Reading a scalar register after a write of one. -/
theorem State.x_setX (s : State) (r q : Reg) (w : Word) :
    (s.setX r w).x q = if q = 0 then 0 else if q = r then w else s.x q := by
  by_cases hq : q = 0#5
  · simp [hq]
  · by_cases h : q = r
    · subst h
      simp [State.x, State.setX, hq]
    · have hne : r.toNat ≠ q.toNat := fun e => h (BitVec.eq_of_toNat_eq e).symm
      by_cases hr : r = 0#5
      · subst hr
        simp [State.x, State.setX, hq]
      · simp [State.x, State.setX, hq, h, hr, hne]

theorem State.x_setX_same (s : State) (r : Reg) (w : Word) :
    (s.setX r w).x r = if r = 0 then 0 else w := by
  simp [State.x_setX]

theorem State.x_setX_other (s : State) (r q : Reg) (w : Word) (h : q ≠ r) :
    (s.setX r w).x q = s.x q := by
  by_cases hq : q = 0#5
  · simp [hq]
  · simp [State.x_setX, hq, h]

/-! ## Vector registers -/

@[simp] theorem State.v_zero (s : State) (k : Nat) : s.v 0#5 k = 0#32 := by
  simp [State.v]

theorem getElem_updateElements (u : Vector Word 32) (p : Nat → Bool) (f : Nat → Word) (k : Nat)
    (hk : k < 32) : (updateElements u p f)[k] = if p k then f k else u[k] := by
  simp [updateElements]

/-- A register that a vector write does not name keeps every element. -/
theorem State.v_setVWhere_other (s : State) (j q : VReg) (p : Nat → Bool) (f : Nat → Word) (k : Nat)
    (h : q ≠ j) : (s.setVWhere j p f).v q k = s.v q k := by
  have hne : j.toNat ≠ q.toNat := fun e => h (BitVec.eq_of_toNat_eq e).symm
  by_cases hj : j = 0#5
  · simp [State.v, State.setVWhere, hj]
  · simp [State.v, State.setVWhere, hj, hne]

/-- Reading an element after a write of the elements that a predicate selects. -/
theorem State.v_setVWhere (s : State) (j q : VReg) (p : Nat → Bool) (f : Nat → Word) (k : Nat)
    (hk : k < 32) :
    (s.setVWhere j p f).v q k = if q = 0 then 0 else if q = j ∧ p k then f k else s.v q k := by
  by_cases hq : q = 0#5
  · simp [hq]
  · by_cases h : q = j
    · subst h
      simp [State.v, State.setVWhere, hq, hk, getElem_updateElements]
    · simp [hq, h, State.v_setVWhere_other]

/-- Reading an element after a write of the first `n` elements (R30). -/
theorem State.v_setV (s : State) (j q : VReg) (n : Nat) (f : Nat → Word) (k : Nat) (hk : k < 32) :
    (s.setV j n f).v q k = if q = 0 then 0 else if q = j ∧ k < n then f k else s.v q k := by
  simp [State.setV, State.v_setVWhere, hk]

theorem State.v_setV_other (s : State) (j q : VReg) (n : Nat) (f : Nat → Word) (k : Nat) (h : q ≠ j) :
    (s.setV j n f).v q k = s.v q k :=
  State.v_setVWhere_other s j q _ f k h

/-! ## Flag words -/

/-- A bit of a flag word. -/
theorem getLsbD_flagWord (n : Nat) (p : Nat → Bool) (k : Nat) (hk : k < 32) :
    (flagWord n p).getLsbD k = (decide (k < n) && p k) := by
  induction n with
  | zero => simp [flagWord]
  | succ n ih =>
    rw [flagWord, BitVec.getLsbD_or, ih]
    by_cases hp : p n
    · by_cases hkn : k = n
      · subst hkn
        simp [hp, hk]
      · by_cases hlt : k < n
        · have hk' : k < n + 1 := by omega
          simp [hp, hlt, hk']
        · have hk' : ¬ k < n + 1 := by omega
          have : k - n ≠ 0 := by omega
          simp [hp, hlt, hk', this]
    · by_cases hkn : k = n
      · subst hkn
        simp [hp]
      · have : (k < n + 1) ↔ (k < n) := by omega
        simp [hp, this]

theorem State.getLsbD_orVovf (s : State) (n : Nat) (p : Nat → Bool) (k : Nat) (hk : k < 32) :
    (s.orVovf n p).vovf.getLsbD k = (s.vovf.getLsbD k || (decide (k < n) && p k)) := by
  rw [State.vovf_orVovf, BitVec.getLsbD_or, getLsbD_flagWord n p k hk]

theorem State.getLsbD_orVsat (s : State) (n : Nat) (p : Nat → Bool) (k : Nat) (hk : k < 32) :
    (s.orVsat n p).vsat.getLsbD k = (s.vsat.getLsbD k || (decide (k < n) && p k)) := by
  rw [State.vsat_orVsat, BitVec.getLsbD_or, getLsbD_flagWord n p k hk]

theorem State.getLsbD_putVcond (s : State) (n : Nat) (p : Nat → Bool) (k : Nat) (hk : k < 32) :
    (s.putVcond n p).vcond.getLsbD k = if k < n then p k else s.vcond.getLsbD k := by
  rw [State.putVcond, BitVec.getLsbD_or, BitVec.getLsbD_and, BitVec.getLsbD_not,
    getLsbD_flagWord n p k hk, getLsbD_flagWord n _ k hk]
  by_cases h : k < n <;> simp [h, hk]

end Sys2Proof.Machine
end

