-- ==== Sys2Proof/Laws/Ops.lean ====
section
/-! SUPPORT. For each shared operation, once, everything it can do: what a memory access, the vector prologue,
the `HI`/`LO` guard and the endings of an instruction answer. Later proofs cite these and unfold none of them. -/

namespace Sys2Proof.Machine

/-! ## Memory accesses (R73, R77, R79) -/

/-- A granted access runs its transfer on the state with the access recorded. -/
theorem access_of_grants (s : State) (new : AccessRecord) (k : State → Result) (h : Grants s new) :
    s.access new k = k (s.recordAccess new) := by
  have hx : (new.kind == .write && new.bytes.any s.inText) = false := by
    by_cases hk : new.kind = .write
    · simpa [hk] using h.notText hk
    · simp [hk]
  have hm : (!new.bytes.all (s.mapped new.kind)) = false := by
    simpa using h.mapped
  simp only [State.access, h.ordered, hx, hm, Bool.false_eq_true, if_false]

/-- An access that answers a next state was granted. -/
theorem grants_of_access (s t : State) (new : AccessRecord) (k : State → Result)
    (h : s.access new k = .next t) : Grants s new ∧ k (s.recordAccess new) = .next t := by
  simp only [State.access] at h
  split_ifs at h with h1 h2 h3
  refine ⟨⟨by simpa using h1, ?_, by simpa using h3⟩, h⟩
  intro hk
  simpa [hk] using h2

/-- What an access answers: a refusal, a fault, or what its transfer answers. -/
theorem access_cases (s : State) (new : AccessRecord) (k : State → Result) :
    s.access new k = .refused .unsynchronisedConflict ∨
    s.access new k = .refused .storeToProgramText ∨
    s.access new k = .fault .noSuchByte ∨
    (Grants s new ∧ s.access new k = k (s.recordAccess new)) := by
  by_cases h1 : s.unsyncedConflict new = true
  · simp [State.access, h1]
  · by_cases h2 : (new.kind == .write && new.bytes.any s.inText) = true
    · simp [State.access, h1, h2]
    · by_cases h3 : (!new.bytes.all (s.mapped new.kind)) = true
      · simp only [State.access, h1, h2, h3, if_true]
        simp
      · refine .inr (.inr (.inr ⟨⟨by simpa using h1, ?_, by simpa using h3⟩, ?_⟩))
        · intro hk
          simpa [hk] using h2
        · simp only [State.access, h1, h2, h3, Bool.false_eq_true, if_false]

/-! ## The vector prologue (R100) -/

/-- When coprocessor 2 is usable, the registers present and `vlr` at most 32, the instruction's own rule runs. -/
theorem vectorPrologue_of_ready (s : State) (i : Instr) (regs : List VReg) (k : Nat → Result)
    (hc : s.cu2 = true) (hr : ∀ j ∈ regs, j.toNat < s.cfg.nvreg) (hl : s.vlr.toNat ≤ 32) :
    s.vectorPrologue i regs k = k s.vlr.toNat := by
  have h1 : (regs.any fun j => decide (s.cfg.nvreg ≤ j.toNat)) = false := by
    simpa using hr
  have h2 : ¬ mvl < s.vlr.toNat := by simpa [mvl] using hl
  simp only [State.vectorPrologue, hc, h1, h2, Bool.not_true, Bool.false_eq_true, if_false]

/-- What the prologue answers: one of its three exceptions, or what the instruction's own rule answers. -/
theorem vectorPrologue_cases (s : State) (i : Instr) (regs : List VReg) (k : Nat → Result) :
    s.vectorPrologue i regs k = s.raiseCpU 2 ∨
    s.vectorPrologue i regs k = s.raise .reservedInstruction (.word (encode i)) ∨
    s.vectorPrologue i regs k = s.raise .vectorOperation (.word (encode i)) ∨
    (s.cu2 = true ∧ (∀ j ∈ regs, j.toNat < s.cfg.nvreg) ∧ s.vlr.toNat ≤ 32 ∧
      s.vectorPrologue i regs k = k s.vlr.toNat) := by
  by_cases hc : s.cu2 = true
  · by_cases hr : (regs.any fun j => decide (s.cfg.nvreg ≤ j.toNat)) = true
    · simp only [State.vectorPrologue, hc, hr, Bool.not_true, Bool.false_eq_true, if_false, if_true]
      simp
    · by_cases hl : mvl < s.vlr.toNat
      · simp only [State.vectorPrologue, hc, hr, hl, Bool.not_true, Bool.false_eq_true, if_false, if_true]
        simp
      · have hr' : ∀ j ∈ regs, j.toNat < s.cfg.nvreg := by simpa using hr
        have hl' : s.vlr.toNat ≤ 32 := by simpa [mvl] using hl
        exact .inr (.inr (.inr ⟨hc, hr', hl', vectorPrologue_of_ready s i regs k hc hr' hl'⟩))
  · simp [State.vectorPrologue, hc]

/-- What the prologue of `vins.s` and `vext.s` answers: one of three exceptions, or what the instruction's own
rule answers for its index. -/
theorem elementPrologue_cases (s : State) (i : Instr) (vd : VReg) (rd : Reg) (k : Nat → Result) :
    s.elementPrologue i vd rd k = s.raiseCpU 2 ∨
    s.elementPrologue i vd rd k = s.raise .reservedInstruction (.word (encode i)) ∨
    (32 ≤ s.elementIndex rd ∧
      s.elementPrologue i vd rd k = s.raise .vectorOperation (.word (encode i))) ∨
    (s.cu2 = true ∧ vd.toNat < s.cfg.nvreg ∧ s.elementIndex rd < 32 ∧
      s.elementPrologue i vd rd k = k (s.elementIndex rd)) := by
  unfold State.elementPrologue
  split_ifs with h1 h2 h3
  · exact .inl rfl
  · exact .inr (.inl rfl)
  · exact .inr (.inr (.inl ⟨h3, rfl⟩))
  · exact .inr (.inr (.inr ⟨by simpa using h1, by omega, by simpa [mvl] using h3, rfl⟩))

/-! ## Vector memory (R142) -/

/-- A vector memory instruction of at least one element, whose registers differ where they must and whose element
addresses are aligned, makes its access. -/
theorem vecMem_of_aligned (i : Instr) (vd : VReg) (kind : AccessKind) (mode : VecMode) (size : Size)
    (transfer unspecified : Nat → State → State) (s : State) (hc : s.cu2 = true)
    (hr : ∀ j ∈ vd :: mode.regs, j.toNat < s.cfg.nvreg) (hl : s.vlr.toNat ≤ 32) (hn : s.vlr.toNat ≠ 0)
    (hs : mode.sameRegister = false)
    (ha : ∀ k, k < s.vlr.toNat → (s.elementAddr mode size k).toNat % size.bytes = 0) :
    vecMem i vd kind mode size transfer unspecified s =
      s.vecTransfer kind mode size s.vlr.toNat (transfer s.vlr.toNat) := by
  have hm : s.misalignedElement mode size s.vlr.toNat = false := by
    simpa [State.misalignedElement, aligned] using ha
  rw [vecMem, vectorPrologue_of_ready s i _ _ hc hr hl, hs]
  cases mode with
  | unit rd rt =>
    have hb : aligned size (s.x rd) = true := by
      simpa [State.elementAddr, aligned] using ha 0 (by omega)
    simp [hb]
  | strided rd rt => simp [hm]
  | indexed rd vt => simp [hm]

/-! ## Fixed point (46) -/

/-- An exact sum that is a 33-bit signed number is what the T0 adder gives, whatever the readings are. -/
theorem t0Adder_of_fits (p : T0Readings) (z : Int) (h : -(2 ^ 32) ≤ z ∧ z < 2 ^ 32) :
    t0Adder p z = BitVec.ofInt 33 z := if_pos h

/-- A word whose unused bits are zero is refused only for `clipam = 11`, where `CLIPAM3` refuses it (R263). -/
theorem fxRefusal_of_zero (c : Config) (op : FxOp) (cfg : Word) (h : cfg &&& fxUnusedBits = 0) :
    fxRefusal c op cfg =
      if (fxFields cfg).clipam = 0b11#2 ∧ c.clipam3 = .refuse then some .clipAmount3 else none := if_pos h

/-- A word with an unused bit set is refused as `T0_CFG_BITS` says (R262, R312). -/
theorem fxRefusal_of_ne_zero (c : Config) (op : FxOp) (cfg : Word) (h : cfg &&& fxUnusedBits ≠ 0) :
    (c.t0CfgBits = .refuse → fxRefusal c op cfg = some .unusedConfigurationBits) ∧
    (c.t0CfgBits = .unpredictable → fxRefusal c op cfg = none) ∧
    (c.t0CfgBits = .honoured → fxRefusal c op cfg =
      if op = .mul ∧ t0MulIllegal (Config.t0Extra cfg) = true then some .t0FieldMustBeZero else none) := by
  simp only [fxRefusal, if_neg h]
  refine ⟨?_, ?_, ?_⟩ <;> intro hc <;> simp [hc]

/-- `VecFx` when the prologue lets it run: a configuration word that is examined and refused, or the results. -/
theorem vecFixed_of_ready (i : Instr) (regs : List VReg) (vw : VReg) (rd : Reg)
    (operands : Nat → Word × Word) (op : FxOp) (s : State)
    (hc : s.cu2 = true) (hr : ∀ j ∈ regs, j.toNat < s.cfg.nvreg) (hl : s.vlr.toNat ≤ 32) :
    (∃ r, s.vlr.toNat ≠ 0 ∧ fxRefusal s.cfg op (s.x rd) = some r ∧
      vecFixed i regs vw rd operands op s = .refused r) ∨
    ((s.vlr.toNat = 0 ∨ fxRefusal s.cfg op (s.x rd) = none) ∧
      vecFixed i regs vw rd operands op s =
        .next ((((s.setVWhere vw
          (fun k => decide (k < s.vlr.toNat) && (s.fxElement op (s.x rd) k (operands k)).write)
          fun k => (s.fxElement op (s.x rd) k (operands k)).value).orVsat s.vlr.toNat
          fun k => (s.fxElement op (s.x rd) k (operands k)).flag).drawn
            (fxDraws (fxMode s.cfg (s.x rd)) s.vlr.toNat)).advance)) := by
  rw [vecFixed, vectorPrologue_of_ready s i regs _ hc hr hl]
  by_cases hn : s.vlr.toNat = 0
  · exact .inr ⟨.inl hn, by simp only [if_pos hn]⟩
  · simp only [if_neg hn]
    cases hf : fxRefusal s.cfg op (s.x rd) with
    | some r => exact .inl ⟨r, hn, rfl, rfl⟩
    | none => exact .inr ⟨.inr rfl, rfl⟩

/-! ## How instructions end -/

/-- Raising an exception answers the state with only the trap record written (R470, R471). -/
theorem raise_eq (s : State) (c : Cause) (info : TrapInfo) :
    s.raise c info = .next (s.trapped c info) := rfl

/-- A trapped state is the state before in everything that a footprint speaks of. -/
theorem unchanged_trapped (f : Footprint) (s : State) (c : Cause) (info : TrapInfo) :
    Unchanged f s (s.trapped c info) := by
  constructor <;> intros <;> rfl

theorem unchanged_refl (f : Footprint) (s : State) : Unchanged f s s := by
  constructor <;> intros <;> rfl

/-- The sequential advance changes nothing that a footprint speaks of. -/
theorem Unchanged.advance {f : Footprint} {s t : State} (h : Unchanged f s t) :
    Unchanged f s t.advance :=
  ⟨h.cfg, h.map, h.text, h.cu1, h.cu2, h.regs, h.vregs, h.hi, h.lo, h.llBit, h.llAddr, h.vcount, h.vlr,
    h.vcond, h.vovf, h.vsat, h.unsynced, h.mem⟩

theorem Unchanged.drawn {f : Footprint} {s t : State} (n : Nat) (h : Unchanged f s t) :
    Unchanged f s (t.drawn n) :=
  ⟨h.cfg, h.map, h.text, h.cu1, h.cu2, h.regs, h.vregs, h.hi, h.lo, h.llBit, h.llAddr, h.vcount, h.vlr,
    h.vcond, h.vovf, h.vsat, h.unsynced, h.mem⟩

/-- A write of a listed scalar register stays inside the footprint. -/
theorem Unchanged.setX {f : Footprint} {s t : State} (r : Reg) (w : Word) (hr : r ∈ f.regs)
    (h : Unchanged f s t) : Unchanged f s (t.setX r w) :=
  { h with
    regs := fun q hq => (State.x_setX_other t r q w fun e => hq (e ▸ hr)).trans (h.regs q hq) }

/-- A write of elements of a listed vector register stays inside the footprint. -/
theorem Unchanged.setVWhere {f : Footprint} {s t : State} (j : VReg) (p : Nat → Bool) (g : Nat → Word)
    (hj : j ∈ f.vregs) (h : Unchanged f s t) : Unchanged f s (t.setVWhere j p g) :=
  { h with
    vregs := fun q hq k =>
      (State.v_setVWhere_other t j q p g k fun e => hq (e ▸ hj)).trans (h.vregs q hq k) }

theorem Unchanged.setV {f : Footprint} {s t : State} (j : VReg) (n : Nat) (g : Nat → Word)
    (hj : j ∈ f.vregs) (h : Unchanged f s t) : Unchanged f s (t.setV j n g) :=
  h.setVWhere j _ g hj

/-- A store to listed bytes stays inside the footprint. -/
theorem Unchanged.writeCells {f : Footprint} {s t : State} (cells : List Host.Cell)
    (hc : ∀ c ∈ cells, c.1 ∈ f.bytes) (h : Unchanged f s t) : Unchanged f s (t.writeCells cells) :=
  { h with
    mem := fun a ha =>
      (Memory.read_writeAll_other t.mem cells a fun c hm e => ha (e ▸ hc c hm)).trans (h.mem a ha) }

theorem Unchanged.recordAccess {f : Footprint} {s t : State} (new : AccessRecord) (hf : f.order = true)
    (h : Unchanged f s t) : Unchanged f s (t.recordAccess new) :=
  { h with unsynced := fun e => absurd (hf.symm.trans e) (by decide) }

/-- `writeResult` completes and writes its register (R333). -/
theorem writes_of_writeResult (i : Instr) (s : State) (rd : Reg) (w : Word)
    (he : exec i s = writeResult rd w s) (hf : (i.footprint s).regs = [rd]) : Writes i s rd w :=
  ⟨(s.setX rd w).advance, he, rfl, ⟨rfl, rfl, rfl⟩,
    ((unchanged_refl _ s).setX rd w (by simp [hf])).advance, State.x_setX_same s rd w⟩

/-- `VecInt` completes and writes its vector register (R181). -/
theorem vectorWrites_of_vecInt (i : Instr) (s : State) (regs : List VReg) (vw : VReg)
    (operands : Nat → Word × Word) (f : Word → Word → Word)
    (he : exec i s = vecInt i regs vw operands f s) (hr : i.vectorRegisters = regs)
    (hf : (i.footprint s).vregs = [vw]) :
    VectorWrites i s vw fun k => f (operands k).1 (operands k).2 := by
  intro h
  rw [vecInt, vectorPrologue_of_ready s i regs _ h.usable (hr ▸ h.present) h.length] at he
  refine ⟨_, he, rfl, ⟨rfl, rfl, rfl⟩,
    ((unchanged_refl _ s).setV vw _ _ (by simp [hf])).advance, fun k hk => ?_⟩
  rw [State.v_advance, State.v_setV s vw vw _ _ k hk]
  by_cases h0 : vw = 0 <;> simp [h0]

end Sys2Proof.Machine
end

