-- ==== Sys2Proof/Laws/Families.lean ====
section
/-! SUPPORT. For each common procedure of a family of instructions, the frame: if it answers a next state, nothing
outside the footprint has changed. Stated for any footprint that lists what the procedure writes, so that one
lemma serves every instruction that calls it. -/

namespace Sys2Proof.Machine

variable {f : Footprint} {s t : State}

/-! ## Transfers of state -/

theorem Unchanged.trans {u : State} (h : Unchanged f s t) (h' : Unchanged f t u) : Unchanged f s u where
  cfg := h'.cfg.trans h.cfg
  map := h'.map.trans h.map
  text := h'.text.trans h.text
  cu1 := h'.cu1.trans h.cu1
  cu2 := h'.cu2.trans h.cu2
  regs r hr := (h'.regs r hr).trans (h.regs r hr)
  vregs j hj k := (h'.vregs j hj k).trans (h.vregs j hj k)
  hi e := (h'.hi e).trans (h.hi e)
  lo e := (h'.lo e).trans (h.lo e)
  llBit e := (h'.llBit e).trans (h.llBit e)
  llAddr e := (h'.llAddr e).trans (h.llAddr e)
  vcount e := (h'.vcount e).trans (h.vcount e)
  vlr e := (h'.vlr e).trans (h.vlr e)
  vcond e := (h'.vcond e).trans (h.vcond e)
  vovf e := (h'.vovf e).trans (h.vovf e)
  vsat e := (h'.vsat e).trans (h.vsat e)
  unsynced e := (h'.unsynced e).trans (h.unsynced e)
  mem a ha := (h'.mem a ha).trans (h.mem a ha)

theorem Unchanged.orVovf (n : Nat) (p : Nat → Bool) (hf : f.vovf = true) (h : Unchanged f s t) :
    Unchanged f s (t.orVovf n p) :=
  { h with vovf := fun e => absurd (hf.symm.trans e) (by decide) }

theorem Unchanged.orVsat (n : Nat) (p : Nat → Bool) (hf : f.vsat = true) (h : Unchanged f s t) :
    Unchanged f s (t.orVsat n p) :=
  { h with vsat := fun e => absurd (hf.symm.trans e) (by decide) }

theorem Unchanged.putVcond (n : Nat) (p : Nat → Bool) (hf : f.vcond = true) (h : Unchanged f s t) :
    Unchanged f s (t.putVcond n p) :=
  { h with vcond := fun e => absurd (hf.symm.trans e) (by decide) }

theorem Unchanged.setHiLo (a b : Word) (hf : f.hiLo = true) (h : Unchanged f s t) :
    Unchanged f s (t.setHiLo a b) :=
  { h with
    hi := fun e => absurd (hf.symm.trans e) (by decide)
    lo := fun e => absurd (hf.symm.trans e) (by decide) }

theorem Unchanged.vectorStoreLink (l : List Nat) (b : Bool) (hf : f.linkBit = true) (h : Unchanged f s t) :
    Unchanged f s (t.vectorStoreLink l b) :=
  { h with llBit := fun e => absurd (hf.symm.trans e) (by decide) }

/-! ## Endings -/

theorem frame_raise {c : Cause} {info : TrapInfo} (f : Footprint) (h : s.raise c info = .next t) :
    Unchanged f s t := by
  cases h
  exact unchanged_trapped f s c info

theorem frame_writeResult {rd : Reg} {w : Word} (hr : rd ∈ f.regs) (h : writeResult rd w s = .next t) :
    Unchanged f s t := by
  cases h
  exact ((unchanged_refl f s).setX rd w hr).advance

theorem frame_writeOrOverflow {o : Bool} {rd : Reg} {w : Word} (hr : rd ∈ f.regs)
    (h : writeOrOverflow o rd w s = .next t) : Unchanged f s t := by
  cases o
  · exact frame_writeResult hr h
  · exact frame_raise f h

theorem next_of_hiLoGuard {r : Result} (h : hiLoGuard s r = .next t) : 2 ≤ s.sinceHiLo ∧ r = .next t := by
  unfold hiLoGuard at h
  split_ifs at h with hc
  exact ⟨by omega, h⟩

theorem frame_setQuotient (z : Bool) (q r : Int) (hf : f.hiLo = true) :
    Unchanged f s (s.setQuotient z q r) := by
  cases z
  · exact (unchanged_refl f s).setHiLo _ _ hf
  · exact ((unchanged_refl f s).setHiLo _ _ hf).drawn 2

theorem frame_condTrap {c : Bool} (f : Footprint) (h : condTrap c s = .next t) : Unchanged f s t := by
  cases c
  · cases h
    exact (unchanged_refl f s).advance
  · exact frame_raise f h

/-! ## Branches and jumps -/

theorem Unchanged.branchTo (a : Word) (h : Unchanged f s t) : Unchanged f s (t.branchTo a) :=
  { h with }

theorem Unchanged.branchStep (likely taken : Bool) (a : Word) (h : Unchanged f s t) :
    Unchanged f s (t.branchStep likely taken a) := by
  cases taken <;> cases likely <;> exact { h with }

theorem frame_condBranch {likely taken : Bool} {imm : BitVec 16} (f : Footprint)
    (h : condBranch likely taken imm s = .next t) : Unchanged f s t := by
  unfold condBranch at h
  split_ifs at h
  cases h
  exact (unchanged_refl f s).branchStep _ _ _

theorem frame_condBranchLink {likely taken : Bool} {rs : Reg} {imm : BitVec 16} (hr : 31 ∈ f.regs)
    (h : condBranchLink likely taken rs imm s = .next t) : Unchanged f s t := by
  unfold condBranchLink at h
  split_ifs at h
  cases h
  exact ((unchanged_refl f s).setX 31 _ hr).branchStep _ _ _

theorem frame_jumpTo {linked : State} {target : Word} (hl : Unchanged f s linked)
    (h : jumpTo linked target s = .next t) : Unchanged f s t := by
  unfold jumpTo at h
  split_ifs at h
  cases h
  exact hl.branchTo _

/-! ## Scalar memory -/

theorem frame_access {new : AccessRecord} {k : State → Result} (hf : f.order = true)
    (hk : ∀ u, Unchanged f s u → k u = .next t → Unchanged f s t) (h : s.access new k = .next t) :
    Unchanged f s t :=
  hk _ ((unchanged_refl f s).recordAccess new hf) (grants_of_access s t new k h).2

theorem frame_scalarAccess {kind : AccessKind} {size : Size} {a : Word} {k : State → Result}
    (hf : f.order = true) (hk : ∀ u, Unchanged f s u → k u = .next t → Unchanged f s t)
    (h : scalarAccess kind size a k s = .next t) : Unchanged f s t := by
  unfold scalarAccess at h
  split_ifs at h
  · exact frame_access hf hk h
  · cases kind <;> exact frame_raise f h

theorem frame_scalarLoad {size : Size} {ext : Extension} {rt : Reg} {a : Word} (hf : f.order = true)
    (hr : rt ∈ f.regs) (h : scalarLoad size ext rt a s = .next t) : Unchanged f s t := by
  refine frame_scalarAccess hf (fun u hu hn => ?_) h
  cases hn
  exact (hu.setX rt _ hr).advance

theorem frame_scalarStore {size : Size} {rt : Reg} {a : Word} (hf : f.order = true)
    (hb : ∀ b ∈ byteAddrs a size.bytes, b ∈ f.bytes) (h : scalarStore size rt a s = .next t) :
    Unchanged f s t := by
  refine frame_scalarAccess hf (fun u hu hn => ?_) h
  cases hn
  exact (hu.writeCells _ fun c hc => hb _ (mem_byteAddrs_of_storeCells _ _ _ _ c hc)).advance

theorem frame_loadLanes {lanes : List (Nat × Nat)} {rt : Reg} (hf : f.order = true) (hr : rt ∈ f.regs)
    (h : loadLanes lanes rt s = .next t) : Unchanged f s t := by
  refine frame_access hf (fun u hu hn => ?_) h
  cases hn
  exact (hu.setX rt _ hr).advance

theorem frame_storeLanes {lanes : List (Nat × Nat)} {rt : Reg} (hf : f.order = true)
    (hb : ∀ l ∈ lanes, l.1 ∈ f.bytes) (h : storeLanes lanes rt s = .next t) : Unchanged f s t := by
  refine frame_access hf (fun u hu hn => ?_) h
  cases hn
  refine (hu.writeCells _ fun c hc => ?_).advance
  obtain ⟨l, hl, rfl⟩ := List.mem_map.1 hc
  exact hb l hl

/-! ## Vector instructions -/

theorem frame_vectorPrologue {i : Instr} {regs : List VReg} {k : Nat → Result}
    (hk : k s.vlr.toNat = .next t → Unchanged f s t) (h : s.vectorPrologue i regs k = .next t) :
    Unchanged f s t := by
  rcases vectorPrologue_cases s i regs k with e | e | e | ⟨-, -, -, e⟩ <;> rw [e] at h
  · exact frame_raise f h
  · exact frame_raise f h
  · exact frame_raise f h
  · exact hk h

theorem frame_vecInt {i : Instr} {regs : List VReg} {vw : VReg} {ops : Nat → Word × Word}
    {g : Word → Word → Word} (hv : vw ∈ f.vregs) (h : vecInt i regs vw ops g s = .next t) :
    Unchanged f s t := by
  refine frame_vectorPrologue (fun hn => ?_) h
  cases hn
  exact ((unchanged_refl f s).setV vw _ _ hv).advance

theorem frame_vecIntOverflow {i : Instr} {regs : List VReg} {vw : VReg} {ops : Nat → Word × Word}
    {g : Word → Word → Word} {o : Word → Word → Bool} (hv : vw ∈ f.vregs) (ho : f.vovf = true)
    (h : vecIntOverflow i regs vw ops g o s = .next t) : Unchanged f s t := by
  refine frame_vectorPrologue (fun hn => ?_) h
  cases hn
  exact (((unchanged_refl f s).setV vw _ _ hv).orVovf _ _ ho).advance

theorem frame_vecFlag {i : Instr} {regs : List VReg} {ops : Nat → Word × Word}
    {p : Word → Word → Bool} (hc : f.vcond = true) (h : vecFlag i regs ops p s = .next t) :
    Unchanged f s t := by
  refine frame_vectorPrologue (fun hn => ?_) h
  cases hn
  exact ((unchanged_refl f s).putVcond _ _ hc).advance

theorem frame_vecMove {i : Instr} {regs : List VReg} {vw : VReg} {ops : Nat → Word × Word}
    {p : Word → Bool} (hv : vw ∈ f.vregs) (h : vecMove i regs vw ops p s = .next t) :
    Unchanged f s t := by
  refine frame_vectorPrologue (fun hn => ?_) h
  cases hn
  exact ((unchanged_refl f s).setVWhere vw _ _ hv).advance

theorem frame_vecFixed {i : Instr} {regs : List VReg} {vw : VReg} {rd : Reg} {ops : Nat → Word × Word}
    {op : FxOp} (hv : vw ∈ f.vregs) (hs : f.vsat = true) (h : vecFixed i regs vw rd ops op s = .next t) :
    Unchanged f s t := by
  refine frame_vectorPrologue (fun hn => ?_) h
  dsimp only at hn
  split at hn
  · cases hn
  cases hn
  exact ((((unchanged_refl f s).setVWhere vw _ _ hv).orVsat _ _ hs).drawn _).advance

theorem frame_elementPrologue {i : Instr} {vd : VReg} {rd : Reg} {k : Nat → Result}
    (hk : k (s.elementIndex rd) = .next t → Unchanged f s t)
    (h : s.elementPrologue i vd rd k = .next t) : Unchanged f s t := by
  unfold State.elementPrologue at h
  split_ifs at h
  · exact frame_raise f h
  · exact frame_raise f h
  · exact frame_raise f h
  · exact hk h

/-! ## Vector memory -/

/-- The scalar register that an addressing mode post-increments. -/
theorem Unchanged.postIncrement (mode : VecMode) (hr : ∀ rd rt, mode = .unit rd rt → rd ∈ f.regs)
    (h : Unchanged f s t) : Unchanged f s (t.postIncrement mode) := by
  cases mode with
  | unit rd rt => exact h.setX rd _ (hr rd rt rfl)
  | strided rd rt => exact h
  | indexed rd vt => exact h

theorem frame_vecTransfer {kind : AccessKind} {mode : VecMode} {size : Size} {n : Nat} {tr : State → State}
    (hf : f.order = true) (hr : ∀ rd rt, mode = .unit rd rt → rd ∈ f.regs)
    (ht : ∀ new, Unchanged f s (s.recordAccess new) → Unchanged f s (tr (s.recordAccess new)))
    (h : s.vecTransfer kind mode size n tr = .next t) : Unchanged f s t := by
  have hn := (grants_of_access s t _ _ h).2
  cases hn
  exact ((ht _ ((unchanged_refl f s).recordAccess _ hf)).postIncrement mode hr).advance

/-- The frame of `VecMem`, from the frames of its transfer and of what a Vector address exception leaves. -/
theorem frame_vecMem {i : Instr} {vd : VReg} {kind : AccessKind} {mode : VecMode} {size : Size}
    {tr un : Nat → State → State} (hf : f.order = true)
    (hr : ∀ rd rt, mode = .unit rd rt → rd ∈ f.regs)
    (ht : ∀ new, Unchanged f s (s.recordAccess new) →
      Unchanged f s (tr s.vlr.toNat (s.recordAccess new)))
    (hu : Unchanged f s (un s.vlr.toNat s)) (h : vecMem i vd kind mode size tr un s = .next t) :
    Unchanged f s t := by
  refine frame_vectorPrologue (fun hn => ?_) h
  cases mode with
  | unit rd rt =>
    simp only at hn
    split_ifs at hn
    · exact frame_vecTransfer hf hr ht hn
    · exact frame_raise f hn
  | strided rd rt =>
    simp only at hn
    split_ifs at hn
    · exact hu.trans (frame_raise f hn)
    · exact frame_vecTransfer hf hr ht hn
  | indexed rd vt =>
    simp only at hn
    split_ifs at hn
    · exact hu.trans (frame_raise f hn)
    · exact frame_vecTransfer hf hr ht hn

theorem frame_vecLoad {i : Instr} {vd : VReg} {mode : VecMode} {size : Size} {ext : Extension}
    (hf : f.order = true) (hr : ∀ rd rt, mode = .unit rd rt → rd ∈ f.regs) (hv : vd ∈ f.vregs)
    (h : vecLoad i vd mode size ext s = .next t) : Unchanged f s t :=
  frame_vecMem hf hr (fun _ hu => hu.setV vd _ _ hv)
    (((unchanged_refl f s).setV vd _ _ hv).drawn _) h

/-- Every vector load and store is its common procedure on its own access. -/
theorem exec_of_vectorAccess (i : Instr) (m : VectorAccess) (s : State) (h : i.vectorAccess = some m) :
    (m.kind = .read ∧ ∃ ext, exec i s = vecLoad i m.vd m.mode m.size ext s) ∨
    (m.kind = .write ∧ exec i s = vecStore i m.vd m.mode m.size s) := by
  cases i <;> cases h
  all_goals first
    | exact .inl ⟨rfl, _, rfl⟩
    | exact .inr ⟨rfl, rfl⟩

theorem mem_elementBytes (s : State) (mode : VecMode) (size : Size) (n i : Nat) (b : Nat) (hi : i < n)
    (hb : b ∈ byteAddrs (s.elementAddr mode size i) size.bytes) : b ∈ s.elementBytes mode size n :=
  List.mem_flatMap.2 ⟨i, List.mem_range.2 hi, hb⟩

theorem mem_elementBytes_of_elementCells (s : State) (vd : VReg) (mode : VecMode) (size : Size) (n : Nat)
    (c : Host.Cell) (hc : c ∈ s.elementCells vd mode size n) : c.1 ∈ s.elementBytes mode size n := by
  obtain ⟨i, hi, hc⟩ := List.mem_flatMap.1 hc
  exact mem_elementBytes s mode size n i c.1 (List.mem_range.1 hi)
    (mem_byteAddrs_of_storeCells _ _ _ _ c hc)

theorem mem_elementBytes_of_resolveCells (s : State) (vd : VReg) (mode : VecMode) (size : Size) (n : Nat)
    (c : Host.Cell) (hc : c ∈ s.resolveCells (s.elementCells vd mode size n)) :
    c.1 ∈ s.elementBytes mode size n := by
  obtain ⟨k, hk, rfl⟩ := List.mem_mapIdx.1 hc
  exact mem_elementBytes_of_elementCells s vd mode size n (s.elementCells vd mode size n)[k]
    (List.getElem_mem hk)

theorem frame_storeElements {vd : VReg} {mode : VecMode} {size : Size} {n : Nat} (hl : f.linkBit = true)
    (hb : ∀ b ∈ t.elementBytes mode size n, b ∈ f.bytes) (h : Unchanged f s t) :
    Unchanged f s (t.storeElements vd mode size n) :=
  ((h.writeCells _ fun c hc => hb _ (mem_elementBytes_of_resolveCells t vd mode size n c hc)).vectorStoreLink
    _ _ hl).drawn _

theorem frame_freeBytes {vd : VReg} {mode : VecMode} {size : Size} {n : Nat}
    (hb : ∀ b ∈ t.elementBytes mode size n, b ∈ f.bytes) (h : Unchanged f s t) :
    Unchanged f s (t.freeBytes vd mode size n) := by
  refine (h.writeCells _ fun c hc => ?_).drawn _
  obtain ⟨k, hk, rfl⟩ := List.mem_mapIdx.1 hc
  have hm := List.getElem_mem hk
  obtain ⟨i, hi, hm⟩ := List.mem_flatMap.1 hm
  have hi' := List.mem_range.1 (List.mem_filter.1 hi).1
  exact hb _ (mem_elementBytes t mode size n i _ hi'
    (mem_byteAddrs_of_storeCells _ _ _ _ (t.reachableCells vd mode size n)[k] (List.mem_filter.1 hm).1))

theorem frame_vecStore {i : Instr} {vd : VReg} {mode : VecMode} {size : Size} (hf : f.order = true)
    (hr : ∀ rd rt, mode = .unit rd rt → rd ∈ f.regs) (hl : f.linkBit = true)
    (hb : ∀ b ∈ s.elementBytes mode size s.vlr.toNat, b ∈ f.bytes)
    (h : vecStore i vd mode size s = .next t) : Unchanged f s t :=
  frame_vecMem hf hr (fun new hu => frame_storeElements (t := s.recordAccess new) hl hb hu)
    (frame_freeBytes hb (unchanged_refl f s)) h

end Sys2Proof.Machine
end

