-- ==== Sys2Proof/Laws/PerInstr.lean ====
section
/-! SUPPORT. A fact about every instruction, one lemma for each constructor: the fixed bits of its encoding are
those of its row of the opcode table (30_encoding.md R102). -/

namespace Sys2Proof.Laws

/-! ## Masking a word field by field -/

/-- The mask of a word in the format of `vWord`. -/
def vWordMask (mf : BitVec 5) (mt : BitVec 5) (mr : BitVec 5) (mo : BitVec 1) (mw : BitVec 5) (md : BitVec 5) : Word :=
  0b111111#6 ++ mf ++ mt ++ mr ++ mo ++ mw ++ md

theorem vWord_and (f : BitVec 5) (t : BitVec 5) (r : BitVec 5) (o : BitVec 1) (w : BitVec 5) (d : BitVec 5)
    (mf : BitVec 5) (mt : BitVec 5) (mr : BitVec 5) (mo : BitVec 1) (mw : BitVec 5) (md : BitVec 5) :
    vWord f t r o w d &&& vWordMask mf mt mr mo mw md =
      vWord (f &&& mf) (t &&& mt) (r &&& mr) (o &&& mo) (w &&& mw) (d &&& md) := by
  apply BitVec.eq_of_getLsbD_eq
  intro k hk
  simp only [vWord, vWordMask, BitVec.getLsbD_and, BitVec.getLsbD_append]
  interval_cases k <;> simp

/-- The mask of a word in the format of `rWord`. -/
def rWordMask (ms : BitVec 5) (mt : BitVec 5) (md : BitVec 5) (ma : BitVec 5) (mf : BitVec 6) : Word :=
  0b111111#6 ++ ms ++ mt ++ md ++ ma ++ mf

theorem rWord_and (s : BitVec 5) (t : BitVec 5) (d : BitVec 5) (a : BitVec 5) (f : BitVec 6)
    (ms : BitVec 5) (mt : BitVec 5) (md : BitVec 5) (ma : BitVec 5) (mf : BitVec 6) :
    rWord s t d a f &&& rWordMask ms mt md ma mf =
      rWord (s &&& ms) (t &&& mt) (d &&& md) (a &&& ma) (f &&& mf) := by
  apply BitVec.eq_of_getLsbD_eq
  intro k hk
  simp only [rWord, rWordMask, BitVec.getLsbD_and, BitVec.getLsbD_append]
  interval_cases k <;> simp

/-- The mask of a word in the format of `iWord`. -/
def iWordMask (mo : BitVec 6) (ms : BitVec 5) (mt : BitVec 5) (mi : BitVec 16) : Word :=
  mo ++ ms ++ mt ++ mi

theorem iWord_and (o : BitVec 6) (s : BitVec 5) (t : BitVec 5) (i : BitVec 16)
    (mo : BitVec 6) (ms : BitVec 5) (mt : BitVec 5) (mi : BitVec 16) :
    iWord o s t i &&& iWordMask mo ms mt mi =
      iWord (o &&& mo) (s &&& ms) (t &&& mt) (i &&& mi) := by
  apply BitVec.eq_of_getLsbD_eq
  intro k hk
  simp only [iWord, iWordMask, BitVec.getLsbD_and, BitVec.getLsbD_append]
  interval_cases k <;> simp

/-- The mask of a word in the format of `jWord`. -/
def jWordMask (mo : BitVec 6) (mt : BitVec 26) : Word :=
  mo ++ mt

theorem jWord_and (o : BitVec 6) (t : BitVec 26)
    (mo : BitVec 6) (mt : BitVec 26) :
    jWord o t &&& jWordMask mo mt =
      jWord (o &&& mo) (t &&& mt) := by
  apply BitVec.eq_of_getLsbD_eq
  intro k hk
  simp only [jWord, jWordMask, BitVec.getLsbD_and, BitVec.getLsbD_append]
  interval_cases k <;> simp

/-- The mask of a word in the format of `trapWord`. -/
def trapWordMask (ms : BitVec 5) (mt : BitVec 5) (mc : BitVec 10) (mf : BitVec 6) : Word :=
  0b111111#6 ++ ms ++ mt ++ mc ++ mf

theorem trapWord_and (s : BitVec 5) (t : BitVec 5) (c : BitVec 10) (f : BitVec 6)
    (ms : BitVec 5) (mt : BitVec 5) (mc : BitVec 10) (mf : BitVec 6) :
    trapWord s t c f &&& trapWordMask ms mt mc mf =
      trapWord (s &&& ms) (t &&& mt) (c &&& mc) (f &&& mf) := by
  apply BitVec.eq_of_getLsbD_eq
  intro k hk
  simp only [trapWord, trapWordMask, BitVec.getLsbD_and, BitVec.getLsbD_append]
  interval_cases k <;> simp

/-- The mask of a word in the format of `codeWord`. -/
def codeWordMask (mc : BitVec 20) (mf : BitVec 6) : Word :=
  0b111111#6 ++ mc ++ mf

theorem codeWord_and (c : BitVec 20) (f : BitVec 6)
    (mc : BitVec 20) (mf : BitVec 6) :
    codeWord c f &&& codeWordMask mc mf =
      codeWord (c &&& mc) (f &&& mf) := by
  apply BitVec.eq_of_getLsbD_eq
  intro k hk
  simp only [codeWord, codeWordMask, BitVec.getLsbD_and, BitVec.getLsbD_append]
  interval_cases k <;> simp

/-! ## The rows of the opcode table -/

/-- The `mask` and the `match` of an instruction's row of the opcode table (R102). -/
def tableRow : Instr → Word × Word
  | .cfvu _ _ => (0xFFE007FF, 0x48400000)
  | .ctvu _ _ => (0xFFE007FF, 0x48C00000)
  | .vextV _ _ _ => (0xFFE007E0, 0x4A000160)
  | .vinsS _ _ _ => (0xFFE007E0, 0x4A200260)
  | .vextS _ _ _ => (0xFFE007E0, 0x4A200360)
  | .lbaiV _ _ _ => (0xFFE007E0, 0x4A600000)
  | .lhaiV _ _ _ => (0xFFE007E0, 0x4A600020)
  | .lwaiV _ _ _ => (0xFFE007E0, 0x4A600060)
  | .lbuaiV _ _ _ => (0xFFE007E0, 0x4A600080)
  | .lhuaiV _ _ _ => (0xFFE007E0, 0x4A6000A0)
  | .lbxV _ _ _ => (0xFFE007E0, 0x4A400200)
  | .lhxV _ _ _ => (0xFFE007E0, 0x4A400220)
  | .lwxV _ _ _ => (0xFFE007E0, 0x4A400260)
  | .lbuxV _ _ _ => (0xFFE007E0, 0x4A400280)
  | .lhuxV _ _ _ => (0xFFE007E0, 0x4A4002A0)
  | .lbstV _ _ _ => (0xFFE007E0, 0x4A600200)
  | .lhstV _ _ _ => (0xFFE007E0, 0x4A600220)
  | .lwstV _ _ _ => (0xFFE007E0, 0x4A600260)
  | .lbustV _ _ _ => (0xFFE007E0, 0x4A600280)
  | .lhustV _ _ _ => (0xFFE007E0, 0x4A6002A0)
  | .sbaiV _ _ _ => (0xFFE007E0, 0x4A600100)
  | .shaiV _ _ _ => (0xFFE007E0, 0x4A600120)
  | .swaiV _ _ _ => (0xFFE007E0, 0x4A600160)
  | .sbxV _ _ _ => (0xFFE007E0, 0x4A400300)
  | .shxV _ _ _ => (0xFFE007E0, 0x4A400320)
  | .swxV _ _ _ => (0xFFE007E0, 0x4A400360)
  | .sbstV _ _ _ => (0xFFE007E0, 0x4A600300)
  | .shstV _ _ _ => (0xFFE007E0, 0x4A600320)
  | .swstV _ _ _ => (0xFFE007E0, 0x4A600360)
  | .andVV _ _ _ => (0xFFE0FC00, 0x4A80A000)
  | .andVS _ _ _ => (0xFFE0FC00, 0x4AA0A000)
  | .orVV _ _ _ => (0xFFE0FC00, 0x4A80A800)
  | .orVS _ _ _ => (0xFFE0FC00, 0x4AA0A800)
  | .xorVV _ _ _ => (0xFFE0FC00, 0x4A80B000)
  | .xorVS _ _ _ => (0xFFE0FC00, 0x4AA0B000)
  | .norVV _ _ _ => (0xFFE0FC00, 0x4A80B800)
  | .norVS _ _ _ => (0xFFE0FC00, 0x4AA0B800)
  | .addVV _ _ _ => (0xFFE0FC00, 0x4A808000)
  | .addVS _ _ _ => (0xFFE0FC00, 0x4AA08000)
  | .adduVV _ _ _ => (0xFFE0FC00, 0x4A808800)
  | .adduVS _ _ _ => (0xFFE0FC00, 0x4AA08800)
  | .subVV _ _ _ => (0xFFE0FC00, 0x4A800000)
  | .subVS _ _ _ => (0xFFE0FC00, 0x4AA00000)
  | .subSV _ _ _ => (0xFFE0FC00, 0x4AA00400)
  | .subuVV _ _ _ => (0xFFE0FC00, 0x4A800800)
  | .subuVS _ _ _ => (0xFFE0FC00, 0x4AA00800)
  | .subuSV _ _ _ => (0xFFE0FC00, 0x4AA00C00)
  | .sllvVV _ _ _ => (0xFFE0FC00, 0x4A804000)
  | .sllvVS _ _ _ => (0xFFE0FC00, 0x4AA04000)
  | .sllvSV _ _ _ => (0xFFE0FC00, 0x4AA04400)
  | .sravVV _ _ _ => (0xFFE0FC00, 0x4A805800)
  | .sravVS _ _ _ => (0xFFE0FC00, 0x4AA05800)
  | .sravSV _ _ _ => (0xFFE0FC00, 0x4AA05C00)
  | .srlvVV _ _ _ => (0xFFE0FC00, 0x4A804800)
  | .srlvVS _ _ _ => (0xFFE0FC00, 0x4AA04800)
  | .srlvSV _ _ _ => (0xFFE0FC00, 0x4AA04C00)
  | .sltVV _ _ _ => (0xFFE0FC00, 0x4A806000)
  | .sltVS _ _ _ => (0xFFE0FC00, 0x4AA06000)
  | .sltSV _ _ _ => (0xFFE0FC00, 0x4AA06400)
  | .sltuVV _ _ _ => (0xFFE0FC00, 0x4A806800)
  | .sltuVS _ _ _ => (0xFFE0FC00, 0x4AA06800)
  | .sltuSV _ _ _ => (0xFFE0FC00, 0x4AA06C00)
  | .seqVV _ _ _ => (0xFFE0FC00, 0x4A807000)
  | .seqVS _ _ _ => (0xFFE0FC00, 0x4AA07000)
  | .fltVV _ _ => (0xFFE0FFE0, 0x4A802000)
  | .fltVS _ _ => (0xFFE0FFE0, 0x4AA02000)
  | .fltSV _ _ => (0xFFE0FFE0, 0x4AA02400)
  | .fltuVV _ _ => (0xFFE0FFE0, 0x4A802800)
  | .fltuVS _ _ => (0xFFE0FFE0, 0x4AA02800)
  | .fltuSV _ _ => (0xFFE0FFE0, 0x4AA02C00)
  | .feqVV _ _ => (0xFFE0FFE0, 0x4A803000)
  | .feqVS _ _ => (0xFFE0FFE0, 0x4AA03000)
  | .cmvnezVV _ _ _ => (0xFFE0FC00, 0x4A80C800)
  | .cmvgezVV _ _ _ => (0xFFE0FC00, 0x4A80D000)
  | .cmvlezVV _ _ _ => (0xFFE0FC00, 0x4A80D800)
  | .cmveqzVV _ _ _ => (0xFFE0FC00, 0x4A80E800)
  | .cmvltzVV _ _ _ => (0xFFE0FC00, 0x4A80F000)
  | .cmvgtzVV _ _ _ => (0xFFE0FC00, 0x4A80F800)
  | .cmvnezVS _ _ _ => (0xFFE0FC00, 0x4AA0C800)
  | .cmvgezVS _ _ _ => (0xFFE0FC00, 0x4AA0D000)
  | .cmvlezVS _ _ _ => (0xFFE0FC00, 0x4AA0D800)
  | .cmveqzVS _ _ _ => (0xFFE0FC00, 0x4AA0E800)
  | .cmvltzVS _ _ _ => (0xFFE0FC00, 0x4AA0F000)
  | .cmvgtzVS _ _ _ => (0xFFE0FC00, 0x4AA0F800)
  | .fxaddVV _ _ _ _ => (0xFFE00400, 0x4B000000)
  | .fxaddVS _ _ _ _ => (0xFFE00400, 0x4B200000)
  | .fxaddSV _ _ _ _ => (0xFFE00400, 0x4B200400)
  | .fxsubVV _ _ _ _ => (0xFFE00400, 0x4B400000)
  | .fxsubVS _ _ _ _ => (0xFFE00400, 0x4B600000)
  | .fxsubSV _ _ _ _ => (0xFFE00400, 0x4B600400)
  | .fxmulVV _ _ _ _ => (0xFFE00400, 0x4B800000)
  | .fxmulVS _ _ _ _ => (0xFFE00400, 0x4BA00000)
  | .fxmulSV _ _ _ _ => (0xFFE00400, 0x4BA00400)
  | .add _ _ _ => (0xFC0007FF, 0x00000020)
  | .addu _ _ _ => (0xFC0007FF, 0x00000021)
  | .sub _ _ _ => (0xFC0007FF, 0x00000022)
  | .subu _ _ _ => (0xFC0007FF, 0x00000023)
  | .and _ _ _ => (0xFC0007FF, 0x00000024)
  | .or _ _ _ => (0xFC0007FF, 0x00000025)
  | .xor _ _ _ => (0xFC0007FF, 0x00000026)
  | .nor _ _ _ => (0xFC0007FF, 0x00000027)
  | .slt _ _ _ => (0xFC0007FF, 0x0000002A)
  | .sltu _ _ _ => (0xFC0007FF, 0x0000002B)
  | .addi _ _ _ => (0xFC000000, 0x20000000)
  | .addiu _ _ _ => (0xFC000000, 0x24000000)
  | .slti _ _ _ => (0xFC000000, 0x28000000)
  | .sltiu _ _ _ => (0xFC000000, 0x2C000000)
  | .andi _ _ _ => (0xFC000000, 0x30000000)
  | .ori _ _ _ => (0xFC000000, 0x34000000)
  | .xori _ _ _ => (0xFC000000, 0x38000000)
  | .lui _ _ => (0xFFE00000, 0x3C000000)
  | .sll _ _ _ => (0xFFE0003F, 0x00000000)
  | .srl _ _ _ => (0xFFE0003F, 0x00000002)
  | .sra _ _ _ => (0xFFE0003F, 0x00000003)
  | .sllv _ _ _ => (0xFC0007FF, 0x00000004)
  | .srlv _ _ _ => (0xFC0007FF, 0x00000006)
  | .srav _ _ _ => (0xFC0007FF, 0x00000007)
  | .mult _ _ => (0xFC00FFFF, 0x00000018)
  | .multu _ _ => (0xFC00FFFF, 0x00000019)
  | .div _ _ => (0xFC00FFFF, 0x0000001A)
  | .divu _ _ => (0xFC00FFFF, 0x0000001B)
  | .mfhi _ => (0xFFFF07FF, 0x00000010)
  | .mthi _ => (0xFC1FFFFF, 0x00000011)
  | .mflo _ => (0xFFFF07FF, 0x00000012)
  | .mtlo _ => (0xFC1FFFFF, 0x00000013)
  | .lb _ _ _ => (0xFC000000, 0x80000000)
  | .lbu _ _ _ => (0xFC000000, 0x90000000)
  | .lh _ _ _ => (0xFC000000, 0x84000000)
  | .lhu _ _ _ => (0xFC000000, 0x94000000)
  | .lw _ _ _ => (0xFC000000, 0x8C000000)
  | .lwl _ _ _ => (0xFC000000, 0x88000000)
  | .lwr _ _ _ => (0xFC000000, 0x98000000)
  | .sb _ _ _ => (0xFC000000, 0xA0000000)
  | .sh _ _ _ => (0xFC000000, 0xA4000000)
  | .sw _ _ _ => (0xFC000000, 0xAC000000)
  | .swl _ _ _ => (0xFC000000, 0xA8000000)
  | .swr _ _ _ => (0xFC000000, 0xB8000000)
  | .ll _ _ _ => (0xFC000000, 0xC0000000)
  | .sc _ _ _ => (0xFC000000, 0xE0000000)
  | .sync => (0xFFFFFFFF, 0x0000000F)
  | .beq _ _ _ => (0xFC000000, 0x10000000)
  | .bne _ _ _ => (0xFC000000, 0x14000000)
  | .blez _ _ => (0xFC1F0000, 0x18000000)
  | .bgtz _ _ => (0xFC1F0000, 0x1C000000)
  | .bltz _ _ => (0xFC1F0000, 0x04000000)
  | .bgez _ _ => (0xFC1F0000, 0x04010000)
  | .bltzal _ _ => (0xFC1F0000, 0x04100000)
  | .bgezal _ _ => (0xFC1F0000, 0x04110000)
  | .beql _ _ _ => (0xFC000000, 0x50000000)
  | .bnel _ _ _ => (0xFC000000, 0x54000000)
  | .blezl _ _ => (0xFC1F0000, 0x58000000)
  | .bgtzl _ _ => (0xFC1F0000, 0x5C000000)
  | .bltzl _ _ => (0xFC1F0000, 0x04020000)
  | .bgezl _ _ => (0xFC1F0000, 0x04030000)
  | .bltzall _ _ => (0xFC1F0000, 0x04120000)
  | .bgezall _ _ => (0xFC1F0000, 0x04130000)
  | .j _ => (0xFC000000, 0x08000000)
  | .jal _ => (0xFC000000, 0x0C000000)
  | .jr _ => (0xFC1FFFFF, 0x00000008)
  | .jalr _ _ => (0xFC1F07FF, 0x00000009)
  | .tge _ _ _ => (0xFC00003F, 0x00000030)
  | .tgeu _ _ _ => (0xFC00003F, 0x00000031)
  | .tlt _ _ _ => (0xFC00003F, 0x00000032)
  | .tltu _ _ _ => (0xFC00003F, 0x00000033)
  | .teq _ _ _ => (0xFC00003F, 0x00000034)
  | .tne _ _ _ => (0xFC00003F, 0x00000036)
  | .tgei _ _ => (0xFC1F0000, 0x04080000)
  | .tgeiu _ _ => (0xFC1F0000, 0x04090000)
  | .tlti _ _ => (0xFC1F0000, 0x040A0000)
  | .tltiu _ _ => (0xFC1F0000, 0x040B0000)
  | .teqi _ _ => (0xFC1F0000, 0x040C0000)
  | .tnei _ _ => (0xFC1F0000, 0x040E0000)
  | .syscall _ => (0xFC00003F, 0x0000000C)
  | .brk _ => (0xFC00003F, 0x0000000D)

/-- A word of the instruction has the fixed bits of its row, whatever the operands are. -/
def WordFixedBits.Statement (i : Instr) : Prop :=
  encode i &&& (tableRow i).1 = (tableRow i).2

theorem WordFixedBits.cfvu (rt : Reg) (cs : CReg) :
    WordFixedBits.Statement (.cfvu rt cs) := by
  show vWord 0b00010#5 rt cs 0b0#1 0b00000#5 0b00000#5 &&& vWordMask 31 0 0 1 31 31 =
    vWord 0b00010#5 0 0 0b0#1 0b00000#5 0b00000#5
  simp [vWord_and]

theorem WordFixedBits.ctvu (rt : Reg) (cs : CReg) :
    WordFixedBits.Statement (.ctvu rt cs) := by
  show vWord 0b00110#5 rt cs 0b0#1 0b00000#5 0b00000#5 &&& vWordMask 31 0 0 1 31 31 =
    vWord 0b00110#5 0 0 0b0#1 0b00000#5 0b00000#5
  simp [vWord_and]

theorem WordFixedBits.vextV (vd : VReg) (vt : VReg) (rd : Reg) :
    WordFixedBits.Statement (.vextV vd vt rd) := by
  show vWord 0b10000#5 vt rd 0b0#1 0b01011#5 vd &&& vWordMask 31 0 0 1 31 0 =
    vWord 0b10000#5 0 0 0b0#1 0b01011#5 0
  simp [vWord_and]

theorem WordFixedBits.vinsS (rt : Reg) (vd : VReg) (rd : Reg) :
    WordFixedBits.Statement (.vinsS rt vd rd) := by
  show vWord 0b10001#5 rt rd 0b0#1 0b10011#5 vd &&& vWordMask 31 0 0 1 31 0 =
    vWord 0b10001#5 0 0 0b0#1 0b10011#5 0
  simp [vWord_and]

theorem WordFixedBits.vextS (rt : Reg) (vd : VReg) (rd : Reg) :
    WordFixedBits.Statement (.vextS rt vd rd) := by
  show vWord 0b10001#5 rt rd 0b0#1 0b11011#5 vd &&& vWordMask 31 0 0 1 31 0 =
    vWord 0b10001#5 0 0 0b0#1 0b11011#5 0
  simp [vWord_and]

theorem WordFixedBits.lbaiV (vd : VReg) (rd : Reg) (rt : Reg) :
    WordFixedBits.Statement (.lbaiV vd rd rt) := by
  show vWord 0b10011#5 rt rd 0b0#1 0b00000#5 vd &&& vWordMask 31 0 0 1 31 0 =
    vWord 0b10011#5 0 0 0b0#1 0b00000#5 0
  simp [vWord_and]

theorem WordFixedBits.lhaiV (vd : VReg) (rd : Reg) (rt : Reg) :
    WordFixedBits.Statement (.lhaiV vd rd rt) := by
  show vWord 0b10011#5 rt rd 0b0#1 0b00001#5 vd &&& vWordMask 31 0 0 1 31 0 =
    vWord 0b10011#5 0 0 0b0#1 0b00001#5 0
  simp [vWord_and]

theorem WordFixedBits.lwaiV (vd : VReg) (rd : Reg) (rt : Reg) :
    WordFixedBits.Statement (.lwaiV vd rd rt) := by
  show vWord 0b10011#5 rt rd 0b0#1 0b00011#5 vd &&& vWordMask 31 0 0 1 31 0 =
    vWord 0b10011#5 0 0 0b0#1 0b00011#5 0
  simp [vWord_and]

theorem WordFixedBits.lbuaiV (vd : VReg) (rd : Reg) (rt : Reg) :
    WordFixedBits.Statement (.lbuaiV vd rd rt) := by
  show vWord 0b10011#5 rt rd 0b0#1 0b00100#5 vd &&& vWordMask 31 0 0 1 31 0 =
    vWord 0b10011#5 0 0 0b0#1 0b00100#5 0
  simp [vWord_and]

theorem WordFixedBits.lhuaiV (vd : VReg) (rd : Reg) (rt : Reg) :
    WordFixedBits.Statement (.lhuaiV vd rd rt) := by
  show vWord 0b10011#5 rt rd 0b0#1 0b00101#5 vd &&& vWordMask 31 0 0 1 31 0 =
    vWord 0b10011#5 0 0 0b0#1 0b00101#5 0
  simp [vWord_and]

theorem WordFixedBits.lbxV (vd : VReg) (rd : Reg) (vt : VReg) :
    WordFixedBits.Statement (.lbxV vd rd vt) := by
  show vWord 0b10010#5 vt rd 0b0#1 0b10000#5 vd &&& vWordMask 31 0 0 1 31 0 =
    vWord 0b10010#5 0 0 0b0#1 0b10000#5 0
  simp [vWord_and]

theorem WordFixedBits.lhxV (vd : VReg) (rd : Reg) (vt : VReg) :
    WordFixedBits.Statement (.lhxV vd rd vt) := by
  show vWord 0b10010#5 vt rd 0b0#1 0b10001#5 vd &&& vWordMask 31 0 0 1 31 0 =
    vWord 0b10010#5 0 0 0b0#1 0b10001#5 0
  simp [vWord_and]

theorem WordFixedBits.lwxV (vd : VReg) (rd : Reg) (vt : VReg) :
    WordFixedBits.Statement (.lwxV vd rd vt) := by
  show vWord 0b10010#5 vt rd 0b0#1 0b10011#5 vd &&& vWordMask 31 0 0 1 31 0 =
    vWord 0b10010#5 0 0 0b0#1 0b10011#5 0
  simp [vWord_and]

theorem WordFixedBits.lbuxV (vd : VReg) (rd : Reg) (vt : VReg) :
    WordFixedBits.Statement (.lbuxV vd rd vt) := by
  show vWord 0b10010#5 vt rd 0b0#1 0b10100#5 vd &&& vWordMask 31 0 0 1 31 0 =
    vWord 0b10010#5 0 0 0b0#1 0b10100#5 0
  simp [vWord_and]

theorem WordFixedBits.lhuxV (vd : VReg) (rd : Reg) (vt : VReg) :
    WordFixedBits.Statement (.lhuxV vd rd vt) := by
  show vWord 0b10010#5 vt rd 0b0#1 0b10101#5 vd &&& vWordMask 31 0 0 1 31 0 =
    vWord 0b10010#5 0 0 0b0#1 0b10101#5 0
  simp [vWord_and]

theorem WordFixedBits.lbstV (vd : VReg) (rd : Reg) (rt : Reg) :
    WordFixedBits.Statement (.lbstV vd rd rt) := by
  show vWord 0b10011#5 rt rd 0b0#1 0b10000#5 vd &&& vWordMask 31 0 0 1 31 0 =
    vWord 0b10011#5 0 0 0b0#1 0b10000#5 0
  simp [vWord_and]

theorem WordFixedBits.lhstV (vd : VReg) (rd : Reg) (rt : Reg) :
    WordFixedBits.Statement (.lhstV vd rd rt) := by
  show vWord 0b10011#5 rt rd 0b0#1 0b10001#5 vd &&& vWordMask 31 0 0 1 31 0 =
    vWord 0b10011#5 0 0 0b0#1 0b10001#5 0
  simp [vWord_and]

theorem WordFixedBits.lwstV (vd : VReg) (rd : Reg) (rt : Reg) :
    WordFixedBits.Statement (.lwstV vd rd rt) := by
  show vWord 0b10011#5 rt rd 0b0#1 0b10011#5 vd &&& vWordMask 31 0 0 1 31 0 =
    vWord 0b10011#5 0 0 0b0#1 0b10011#5 0
  simp [vWord_and]

theorem WordFixedBits.lbustV (vd : VReg) (rd : Reg) (rt : Reg) :
    WordFixedBits.Statement (.lbustV vd rd rt) := by
  show vWord 0b10011#5 rt rd 0b0#1 0b10100#5 vd &&& vWordMask 31 0 0 1 31 0 =
    vWord 0b10011#5 0 0 0b0#1 0b10100#5 0
  simp [vWord_and]

theorem WordFixedBits.lhustV (vd : VReg) (rd : Reg) (rt : Reg) :
    WordFixedBits.Statement (.lhustV vd rd rt) := by
  show vWord 0b10011#5 rt rd 0b0#1 0b10101#5 vd &&& vWordMask 31 0 0 1 31 0 =
    vWord 0b10011#5 0 0 0b0#1 0b10101#5 0
  simp [vWord_and]

theorem WordFixedBits.sbaiV (vd : VReg) (rd : Reg) (rt : Reg) :
    WordFixedBits.Statement (.sbaiV vd rd rt) := by
  show vWord 0b10011#5 rt rd 0b0#1 0b01000#5 vd &&& vWordMask 31 0 0 1 31 0 =
    vWord 0b10011#5 0 0 0b0#1 0b01000#5 0
  simp [vWord_and]

theorem WordFixedBits.shaiV (vd : VReg) (rd : Reg) (rt : Reg) :
    WordFixedBits.Statement (.shaiV vd rd rt) := by
  show vWord 0b10011#5 rt rd 0b0#1 0b01001#5 vd &&& vWordMask 31 0 0 1 31 0 =
    vWord 0b10011#5 0 0 0b0#1 0b01001#5 0
  simp [vWord_and]

theorem WordFixedBits.swaiV (vd : VReg) (rd : Reg) (rt : Reg) :
    WordFixedBits.Statement (.swaiV vd rd rt) := by
  show vWord 0b10011#5 rt rd 0b0#1 0b01011#5 vd &&& vWordMask 31 0 0 1 31 0 =
    vWord 0b10011#5 0 0 0b0#1 0b01011#5 0
  simp [vWord_and]

theorem WordFixedBits.sbxV (vd : VReg) (rd : Reg) (vt : VReg) :
    WordFixedBits.Statement (.sbxV vd rd vt) := by
  show vWord 0b10010#5 vt rd 0b0#1 0b11000#5 vd &&& vWordMask 31 0 0 1 31 0 =
    vWord 0b10010#5 0 0 0b0#1 0b11000#5 0
  simp [vWord_and]

theorem WordFixedBits.shxV (vd : VReg) (rd : Reg) (vt : VReg) :
    WordFixedBits.Statement (.shxV vd rd vt) := by
  show vWord 0b10010#5 vt rd 0b0#1 0b11001#5 vd &&& vWordMask 31 0 0 1 31 0 =
    vWord 0b10010#5 0 0 0b0#1 0b11001#5 0
  simp [vWord_and]

theorem WordFixedBits.swxV (vd : VReg) (rd : Reg) (vt : VReg) :
    WordFixedBits.Statement (.swxV vd rd vt) := by
  show vWord 0b10010#5 vt rd 0b0#1 0b11011#5 vd &&& vWordMask 31 0 0 1 31 0 =
    vWord 0b10010#5 0 0 0b0#1 0b11011#5 0
  simp [vWord_and]

theorem WordFixedBits.sbstV (vd : VReg) (rd : Reg) (rt : Reg) :
    WordFixedBits.Statement (.sbstV vd rd rt) := by
  show vWord 0b10011#5 rt rd 0b0#1 0b11000#5 vd &&& vWordMask 31 0 0 1 31 0 =
    vWord 0b10011#5 0 0 0b0#1 0b11000#5 0
  simp [vWord_and]

theorem WordFixedBits.shstV (vd : VReg) (rd : Reg) (rt : Reg) :
    WordFixedBits.Statement (.shstV vd rd rt) := by
  show vWord 0b10011#5 rt rd 0b0#1 0b11001#5 vd &&& vWordMask 31 0 0 1 31 0 =
    vWord 0b10011#5 0 0 0b0#1 0b11001#5 0
  simp [vWord_and]

theorem WordFixedBits.swstV (vd : VReg) (rd : Reg) (rt : Reg) :
    WordFixedBits.Statement (.swstV vd rd rt) := by
  show vWord 0b10011#5 rt rd 0b0#1 0b11011#5 vd &&& vWordMask 31 0 0 1 31 0 =
    vWord 0b10011#5 0 0 0b0#1 0b11011#5 0
  simp [vWord_and]

theorem WordFixedBits.andVV (vw : VReg) (vd : VReg) (vt : VReg) :
    WordFixedBits.Statement (.andVV vw vd vt) := by
  show vWord 0b10100#5 vt 0b10100#5 0b0#1 vw vd &&& vWordMask 31 0 31 1 0 0 =
    vWord 0b10100#5 0 0b10100#5 0b0#1 0 0
  simp [vWord_and]

theorem WordFixedBits.andVS (vw : VReg) (vd : VReg) (rt : Reg) :
    WordFixedBits.Statement (.andVS vw vd rt) := by
  show vWord 0b10101#5 rt 0b10100#5 0b0#1 vw vd &&& vWordMask 31 0 31 1 0 0 =
    vWord 0b10101#5 0 0b10100#5 0b0#1 0 0
  simp [vWord_and]

theorem WordFixedBits.orVV (vw : VReg) (vd : VReg) (vt : VReg) :
    WordFixedBits.Statement (.orVV vw vd vt) := by
  show vWord 0b10100#5 vt 0b10101#5 0b0#1 vw vd &&& vWordMask 31 0 31 1 0 0 =
    vWord 0b10100#5 0 0b10101#5 0b0#1 0 0
  simp [vWord_and]

theorem WordFixedBits.orVS (vw : VReg) (vd : VReg) (rt : Reg) :
    WordFixedBits.Statement (.orVS vw vd rt) := by
  show vWord 0b10101#5 rt 0b10101#5 0b0#1 vw vd &&& vWordMask 31 0 31 1 0 0 =
    vWord 0b10101#5 0 0b10101#5 0b0#1 0 0
  simp [vWord_and]

theorem WordFixedBits.xorVV (vw : VReg) (vd : VReg) (vt : VReg) :
    WordFixedBits.Statement (.xorVV vw vd vt) := by
  show vWord 0b10100#5 vt 0b10110#5 0b0#1 vw vd &&& vWordMask 31 0 31 1 0 0 =
    vWord 0b10100#5 0 0b10110#5 0b0#1 0 0
  simp [vWord_and]

theorem WordFixedBits.xorVS (vw : VReg) (vd : VReg) (rt : Reg) :
    WordFixedBits.Statement (.xorVS vw vd rt) := by
  show vWord 0b10101#5 rt 0b10110#5 0b0#1 vw vd &&& vWordMask 31 0 31 1 0 0 =
    vWord 0b10101#5 0 0b10110#5 0b0#1 0 0
  simp [vWord_and]

theorem WordFixedBits.norVV (vw : VReg) (vd : VReg) (vt : VReg) :
    WordFixedBits.Statement (.norVV vw vd vt) := by
  show vWord 0b10100#5 vt 0b10111#5 0b0#1 vw vd &&& vWordMask 31 0 31 1 0 0 =
    vWord 0b10100#5 0 0b10111#5 0b0#1 0 0
  simp [vWord_and]

theorem WordFixedBits.norVS (vw : VReg) (vd : VReg) (rt : Reg) :
    WordFixedBits.Statement (.norVS vw vd rt) := by
  show vWord 0b10101#5 rt 0b10111#5 0b0#1 vw vd &&& vWordMask 31 0 31 1 0 0 =
    vWord 0b10101#5 0 0b10111#5 0b0#1 0 0
  simp [vWord_and]

theorem WordFixedBits.addVV (vw : VReg) (vd : VReg) (vt : VReg) :
    WordFixedBits.Statement (.addVV vw vd vt) := by
  show vWord 0b10100#5 vt 0b10000#5 0b0#1 vw vd &&& vWordMask 31 0 31 1 0 0 =
    vWord 0b10100#5 0 0b10000#5 0b0#1 0 0
  simp [vWord_and]

theorem WordFixedBits.addVS (vw : VReg) (vd : VReg) (rt : Reg) :
    WordFixedBits.Statement (.addVS vw vd rt) := by
  show vWord 0b10101#5 rt 0b10000#5 0b0#1 vw vd &&& vWordMask 31 0 31 1 0 0 =
    vWord 0b10101#5 0 0b10000#5 0b0#1 0 0
  simp [vWord_and]

theorem WordFixedBits.adduVV (vw : VReg) (vd : VReg) (vt : VReg) :
    WordFixedBits.Statement (.adduVV vw vd vt) := by
  show vWord 0b10100#5 vt 0b10001#5 0b0#1 vw vd &&& vWordMask 31 0 31 1 0 0 =
    vWord 0b10100#5 0 0b10001#5 0b0#1 0 0
  simp [vWord_and]

theorem WordFixedBits.adduVS (vw : VReg) (vd : VReg) (rt : Reg) :
    WordFixedBits.Statement (.adduVS vw vd rt) := by
  show vWord 0b10101#5 rt 0b10001#5 0b0#1 vw vd &&& vWordMask 31 0 31 1 0 0 =
    vWord 0b10101#5 0 0b10001#5 0b0#1 0 0
  simp [vWord_and]

theorem WordFixedBits.subVV (vw : VReg) (vd : VReg) (vt : VReg) :
    WordFixedBits.Statement (.subVV vw vd vt) := by
  show vWord 0b10100#5 vt 0b00000#5 0b0#1 vw vd &&& vWordMask 31 0 31 1 0 0 =
    vWord 0b10100#5 0 0b00000#5 0b0#1 0 0
  simp [vWord_and]

theorem WordFixedBits.subVS (vw : VReg) (vd : VReg) (rt : Reg) :
    WordFixedBits.Statement (.subVS vw vd rt) := by
  show vWord 0b10101#5 rt 0b00000#5 0b0#1 vw vd &&& vWordMask 31 0 31 1 0 0 =
    vWord 0b10101#5 0 0b00000#5 0b0#1 0 0
  simp [vWord_and]

theorem WordFixedBits.subSV (vw : VReg) (rt : Reg) (vd : VReg) :
    WordFixedBits.Statement (.subSV vw rt vd) := by
  show vWord 0b10101#5 rt 0b00000#5 0b1#1 vw vd &&& vWordMask 31 0 31 1 0 0 =
    vWord 0b10101#5 0 0b00000#5 0b1#1 0 0
  simp [vWord_and]

theorem WordFixedBits.subuVV (vw : VReg) (vd : VReg) (vt : VReg) :
    WordFixedBits.Statement (.subuVV vw vd vt) := by
  show vWord 0b10100#5 vt 0b00001#5 0b0#1 vw vd &&& vWordMask 31 0 31 1 0 0 =
    vWord 0b10100#5 0 0b00001#5 0b0#1 0 0
  simp [vWord_and]

theorem WordFixedBits.subuVS (vw : VReg) (vd : VReg) (rt : Reg) :
    WordFixedBits.Statement (.subuVS vw vd rt) := by
  show vWord 0b10101#5 rt 0b00001#5 0b0#1 vw vd &&& vWordMask 31 0 31 1 0 0 =
    vWord 0b10101#5 0 0b00001#5 0b0#1 0 0
  simp [vWord_and]

theorem WordFixedBits.subuSV (vw : VReg) (rt : Reg) (vd : VReg) :
    WordFixedBits.Statement (.subuSV vw rt vd) := by
  show vWord 0b10101#5 rt 0b00001#5 0b1#1 vw vd &&& vWordMask 31 0 31 1 0 0 =
    vWord 0b10101#5 0 0b00001#5 0b1#1 0 0
  simp [vWord_and]

theorem WordFixedBits.sllvVV (vw : VReg) (vd : VReg) (vt : VReg) :
    WordFixedBits.Statement (.sllvVV vw vd vt) := by
  show vWord 0b10100#5 vt 0b01000#5 0b0#1 vw vd &&& vWordMask 31 0 31 1 0 0 =
    vWord 0b10100#5 0 0b01000#5 0b0#1 0 0
  simp [vWord_and]

theorem WordFixedBits.sllvVS (vw : VReg) (vd : VReg) (rt : Reg) :
    WordFixedBits.Statement (.sllvVS vw vd rt) := by
  show vWord 0b10101#5 rt 0b01000#5 0b0#1 vw vd &&& vWordMask 31 0 31 1 0 0 =
    vWord 0b10101#5 0 0b01000#5 0b0#1 0 0
  simp [vWord_and]

theorem WordFixedBits.sllvSV (vw : VReg) (rt : Reg) (vd : VReg) :
    WordFixedBits.Statement (.sllvSV vw rt vd) := by
  show vWord 0b10101#5 rt 0b01000#5 0b1#1 vw vd &&& vWordMask 31 0 31 1 0 0 =
    vWord 0b10101#5 0 0b01000#5 0b1#1 0 0
  simp [vWord_and]

theorem WordFixedBits.sravVV (vw : VReg) (vd : VReg) (vt : VReg) :
    WordFixedBits.Statement (.sravVV vw vd vt) := by
  show vWord 0b10100#5 vt 0b01011#5 0b0#1 vw vd &&& vWordMask 31 0 31 1 0 0 =
    vWord 0b10100#5 0 0b01011#5 0b0#1 0 0
  simp [vWord_and]

theorem WordFixedBits.sravVS (vw : VReg) (vd : VReg) (rt : Reg) :
    WordFixedBits.Statement (.sravVS vw vd rt) := by
  show vWord 0b10101#5 rt 0b01011#5 0b0#1 vw vd &&& vWordMask 31 0 31 1 0 0 =
    vWord 0b10101#5 0 0b01011#5 0b0#1 0 0
  simp [vWord_and]

theorem WordFixedBits.sravSV (vw : VReg) (rt : Reg) (vd : VReg) :
    WordFixedBits.Statement (.sravSV vw rt vd) := by
  show vWord 0b10101#5 rt 0b01011#5 0b1#1 vw vd &&& vWordMask 31 0 31 1 0 0 =
    vWord 0b10101#5 0 0b01011#5 0b1#1 0 0
  simp [vWord_and]

theorem WordFixedBits.srlvVV (vw : VReg) (vd : VReg) (vt : VReg) :
    WordFixedBits.Statement (.srlvVV vw vd vt) := by
  show vWord 0b10100#5 vt 0b01001#5 0b0#1 vw vd &&& vWordMask 31 0 31 1 0 0 =
    vWord 0b10100#5 0 0b01001#5 0b0#1 0 0
  simp [vWord_and]

theorem WordFixedBits.srlvVS (vw : VReg) (vd : VReg) (rt : Reg) :
    WordFixedBits.Statement (.srlvVS vw vd rt) := by
  show vWord 0b10101#5 rt 0b01001#5 0b0#1 vw vd &&& vWordMask 31 0 31 1 0 0 =
    vWord 0b10101#5 0 0b01001#5 0b0#1 0 0
  simp [vWord_and]

theorem WordFixedBits.srlvSV (vw : VReg) (rt : Reg) (vd : VReg) :
    WordFixedBits.Statement (.srlvSV vw rt vd) := by
  show vWord 0b10101#5 rt 0b01001#5 0b1#1 vw vd &&& vWordMask 31 0 31 1 0 0 =
    vWord 0b10101#5 0 0b01001#5 0b1#1 0 0
  simp [vWord_and]

theorem WordFixedBits.sltVV (vw : VReg) (vd : VReg) (vt : VReg) :
    WordFixedBits.Statement (.sltVV vw vd vt) := by
  show vWord 0b10100#5 vt 0b01100#5 0b0#1 vw vd &&& vWordMask 31 0 31 1 0 0 =
    vWord 0b10100#5 0 0b01100#5 0b0#1 0 0
  simp [vWord_and]

theorem WordFixedBits.sltVS (vw : VReg) (vd : VReg) (rt : Reg) :
    WordFixedBits.Statement (.sltVS vw vd rt) := by
  show vWord 0b10101#5 rt 0b01100#5 0b0#1 vw vd &&& vWordMask 31 0 31 1 0 0 =
    vWord 0b10101#5 0 0b01100#5 0b0#1 0 0
  simp [vWord_and]

theorem WordFixedBits.sltSV (vw : VReg) (rt : Reg) (vd : VReg) :
    WordFixedBits.Statement (.sltSV vw rt vd) := by
  show vWord 0b10101#5 rt 0b01100#5 0b1#1 vw vd &&& vWordMask 31 0 31 1 0 0 =
    vWord 0b10101#5 0 0b01100#5 0b1#1 0 0
  simp [vWord_and]

theorem WordFixedBits.sltuVV (vw : VReg) (vd : VReg) (vt : VReg) :
    WordFixedBits.Statement (.sltuVV vw vd vt) := by
  show vWord 0b10100#5 vt 0b01101#5 0b0#1 vw vd &&& vWordMask 31 0 31 1 0 0 =
    vWord 0b10100#5 0 0b01101#5 0b0#1 0 0
  simp [vWord_and]

theorem WordFixedBits.sltuVS (vw : VReg) (vd : VReg) (rt : Reg) :
    WordFixedBits.Statement (.sltuVS vw vd rt) := by
  show vWord 0b10101#5 rt 0b01101#5 0b0#1 vw vd &&& vWordMask 31 0 31 1 0 0 =
    vWord 0b10101#5 0 0b01101#5 0b0#1 0 0
  simp [vWord_and]

theorem WordFixedBits.sltuSV (vw : VReg) (rt : Reg) (vd : VReg) :
    WordFixedBits.Statement (.sltuSV vw rt vd) := by
  show vWord 0b10101#5 rt 0b01101#5 0b1#1 vw vd &&& vWordMask 31 0 31 1 0 0 =
    vWord 0b10101#5 0 0b01101#5 0b1#1 0 0
  simp [vWord_and]

theorem WordFixedBits.seqVV (vw : VReg) (vd : VReg) (vt : VReg) :
    WordFixedBits.Statement (.seqVV vw vd vt) := by
  show vWord 0b10100#5 vt 0b01110#5 0b0#1 vw vd &&& vWordMask 31 0 31 1 0 0 =
    vWord 0b10100#5 0 0b01110#5 0b0#1 0 0
  simp [vWord_and]

theorem WordFixedBits.seqVS (vw : VReg) (vd : VReg) (rt : Reg) :
    WordFixedBits.Statement (.seqVS vw vd rt) := by
  show vWord 0b10101#5 rt 0b01110#5 0b0#1 vw vd &&& vWordMask 31 0 31 1 0 0 =
    vWord 0b10101#5 0 0b01110#5 0b0#1 0 0
  simp [vWord_and]

theorem WordFixedBits.fltVV (vd : VReg) (vt : VReg) :
    WordFixedBits.Statement (.fltVV vd vt) := by
  show vWord 0b10100#5 vt 0b00100#5 0b0#1 0b00000#5 vd &&& vWordMask 31 0 31 1 31 0 =
    vWord 0b10100#5 0 0b00100#5 0b0#1 0b00000#5 0
  simp [vWord_and]

theorem WordFixedBits.fltVS (vd : VReg) (rt : Reg) :
    WordFixedBits.Statement (.fltVS vd rt) := by
  show vWord 0b10101#5 rt 0b00100#5 0b0#1 0b00000#5 vd &&& vWordMask 31 0 31 1 31 0 =
    vWord 0b10101#5 0 0b00100#5 0b0#1 0b00000#5 0
  simp [vWord_and]

theorem WordFixedBits.fltSV (rt : Reg) (vd : VReg) :
    WordFixedBits.Statement (.fltSV rt vd) := by
  show vWord 0b10101#5 rt 0b00100#5 0b1#1 0b00000#5 vd &&& vWordMask 31 0 31 1 31 0 =
    vWord 0b10101#5 0 0b00100#5 0b1#1 0b00000#5 0
  simp [vWord_and]

theorem WordFixedBits.fltuVV (vd : VReg) (vt : VReg) :
    WordFixedBits.Statement (.fltuVV vd vt) := by
  show vWord 0b10100#5 vt 0b00101#5 0b0#1 0b00000#5 vd &&& vWordMask 31 0 31 1 31 0 =
    vWord 0b10100#5 0 0b00101#5 0b0#1 0b00000#5 0
  simp [vWord_and]

theorem WordFixedBits.fltuVS (vd : VReg) (rt : Reg) :
    WordFixedBits.Statement (.fltuVS vd rt) := by
  show vWord 0b10101#5 rt 0b00101#5 0b0#1 0b00000#5 vd &&& vWordMask 31 0 31 1 31 0 =
    vWord 0b10101#5 0 0b00101#5 0b0#1 0b00000#5 0
  simp [vWord_and]

theorem WordFixedBits.fltuSV (rt : Reg) (vd : VReg) :
    WordFixedBits.Statement (.fltuSV rt vd) := by
  show vWord 0b10101#5 rt 0b00101#5 0b1#1 0b00000#5 vd &&& vWordMask 31 0 31 1 31 0 =
    vWord 0b10101#5 0 0b00101#5 0b1#1 0b00000#5 0
  simp [vWord_and]

theorem WordFixedBits.feqVV (vd : VReg) (vt : VReg) :
    WordFixedBits.Statement (.feqVV vd vt) := by
  show vWord 0b10100#5 vt 0b00110#5 0b0#1 0b00000#5 vd &&& vWordMask 31 0 31 1 31 0 =
    vWord 0b10100#5 0 0b00110#5 0b0#1 0b00000#5 0
  simp [vWord_and]

theorem WordFixedBits.feqVS (vd : VReg) (rt : Reg) :
    WordFixedBits.Statement (.feqVS vd rt) := by
  show vWord 0b10101#5 rt 0b00110#5 0b0#1 0b00000#5 vd &&& vWordMask 31 0 31 1 31 0 =
    vWord 0b10101#5 0 0b00110#5 0b0#1 0b00000#5 0
  simp [vWord_and]

theorem WordFixedBits.cmvnezVV (vw : VReg) (vd : VReg) (vt : VReg) :
    WordFixedBits.Statement (.cmvnezVV vw vd vt) := by
  show vWord 0b10100#5 vt 0b11001#5 0b0#1 vw vd &&& vWordMask 31 0 31 1 0 0 =
    vWord 0b10100#5 0 0b11001#5 0b0#1 0 0
  simp [vWord_and]

theorem WordFixedBits.cmvgezVV (vw : VReg) (vd : VReg) (vt : VReg) :
    WordFixedBits.Statement (.cmvgezVV vw vd vt) := by
  show vWord 0b10100#5 vt 0b11010#5 0b0#1 vw vd &&& vWordMask 31 0 31 1 0 0 =
    vWord 0b10100#5 0 0b11010#5 0b0#1 0 0
  simp [vWord_and]

theorem WordFixedBits.cmvlezVV (vw : VReg) (vd : VReg) (vt : VReg) :
    WordFixedBits.Statement (.cmvlezVV vw vd vt) := by
  show vWord 0b10100#5 vt 0b11011#5 0b0#1 vw vd &&& vWordMask 31 0 31 1 0 0 =
    vWord 0b10100#5 0 0b11011#5 0b0#1 0 0
  simp [vWord_and]

theorem WordFixedBits.cmveqzVV (vw : VReg) (vd : VReg) (vt : VReg) :
    WordFixedBits.Statement (.cmveqzVV vw vd vt) := by
  show vWord 0b10100#5 vt 0b11101#5 0b0#1 vw vd &&& vWordMask 31 0 31 1 0 0 =
    vWord 0b10100#5 0 0b11101#5 0b0#1 0 0
  simp [vWord_and]

theorem WordFixedBits.cmvltzVV (vw : VReg) (vd : VReg) (vt : VReg) :
    WordFixedBits.Statement (.cmvltzVV vw vd vt) := by
  show vWord 0b10100#5 vt 0b11110#5 0b0#1 vw vd &&& vWordMask 31 0 31 1 0 0 =
    vWord 0b10100#5 0 0b11110#5 0b0#1 0 0
  simp [vWord_and]

theorem WordFixedBits.cmvgtzVV (vw : VReg) (vd : VReg) (vt : VReg) :
    WordFixedBits.Statement (.cmvgtzVV vw vd vt) := by
  show vWord 0b10100#5 vt 0b11111#5 0b0#1 vw vd &&& vWordMask 31 0 31 1 0 0 =
    vWord 0b10100#5 0 0b11111#5 0b0#1 0 0
  simp [vWord_and]

theorem WordFixedBits.cmvnezVS (vw : VReg) (vd : VReg) (rt : Reg) :
    WordFixedBits.Statement (.cmvnezVS vw vd rt) := by
  show vWord 0b10101#5 rt 0b11001#5 0b0#1 vw vd &&& vWordMask 31 0 31 1 0 0 =
    vWord 0b10101#5 0 0b11001#5 0b0#1 0 0
  simp [vWord_and]

theorem WordFixedBits.cmvgezVS (vw : VReg) (vd : VReg) (rt : Reg) :
    WordFixedBits.Statement (.cmvgezVS vw vd rt) := by
  show vWord 0b10101#5 rt 0b11010#5 0b0#1 vw vd &&& vWordMask 31 0 31 1 0 0 =
    vWord 0b10101#5 0 0b11010#5 0b0#1 0 0
  simp [vWord_and]

theorem WordFixedBits.cmvlezVS (vw : VReg) (vd : VReg) (rt : Reg) :
    WordFixedBits.Statement (.cmvlezVS vw vd rt) := by
  show vWord 0b10101#5 rt 0b11011#5 0b0#1 vw vd &&& vWordMask 31 0 31 1 0 0 =
    vWord 0b10101#5 0 0b11011#5 0b0#1 0 0
  simp [vWord_and]

theorem WordFixedBits.cmveqzVS (vw : VReg) (vd : VReg) (rt : Reg) :
    WordFixedBits.Statement (.cmveqzVS vw vd rt) := by
  show vWord 0b10101#5 rt 0b11101#5 0b0#1 vw vd &&& vWordMask 31 0 31 1 0 0 =
    vWord 0b10101#5 0 0b11101#5 0b0#1 0 0
  simp [vWord_and]

theorem WordFixedBits.cmvltzVS (vw : VReg) (vd : VReg) (rt : Reg) :
    WordFixedBits.Statement (.cmvltzVS vw vd rt) := by
  show vWord 0b10101#5 rt 0b11110#5 0b0#1 vw vd &&& vWordMask 31 0 31 1 0 0 =
    vWord 0b10101#5 0 0b11110#5 0b0#1 0 0
  simp [vWord_and]

theorem WordFixedBits.cmvgtzVS (vw : VReg) (vd : VReg) (rt : Reg) :
    WordFixedBits.Statement (.cmvgtzVS vw vd rt) := by
  show vWord 0b10101#5 rt 0b11111#5 0b0#1 vw vd &&& vWordMask 31 0 31 1 0 0 =
    vWord 0b10101#5 0 0b11111#5 0b0#1 0 0
  simp [vWord_and]

theorem WordFixedBits.fxaddVV (vw : VReg) (vd : VReg) (vt : VReg) (rd : Reg) :
    WordFixedBits.Statement (.fxaddVV vw vd vt rd) := by
  show vWord 0b11000#5 vt rd 0b0#1 vw vd &&& vWordMask 31 0 0 1 0 0 =
    vWord 0b11000#5 0 0 0b0#1 0 0
  simp [vWord_and]

theorem WordFixedBits.fxaddVS (vw : VReg) (vd : VReg) (rt : Reg) (rd : Reg) :
    WordFixedBits.Statement (.fxaddVS vw vd rt rd) := by
  show vWord 0b11001#5 rt rd 0b0#1 vw vd &&& vWordMask 31 0 0 1 0 0 =
    vWord 0b11001#5 0 0 0b0#1 0 0
  simp [vWord_and]

theorem WordFixedBits.fxaddSV (vw : VReg) (rt : Reg) (vd : VReg) (rd : Reg) :
    WordFixedBits.Statement (.fxaddSV vw rt vd rd) := by
  show vWord 0b11001#5 rt rd 0b1#1 vw vd &&& vWordMask 31 0 0 1 0 0 =
    vWord 0b11001#5 0 0 0b1#1 0 0
  simp [vWord_and]

theorem WordFixedBits.fxsubVV (vw : VReg) (vd : VReg) (vt : VReg) (rd : Reg) :
    WordFixedBits.Statement (.fxsubVV vw vd vt rd) := by
  show vWord 0b11010#5 vt rd 0b0#1 vw vd &&& vWordMask 31 0 0 1 0 0 =
    vWord 0b11010#5 0 0 0b0#1 0 0
  simp [vWord_and]

theorem WordFixedBits.fxsubVS (vw : VReg) (vd : VReg) (rt : Reg) (rd : Reg) :
    WordFixedBits.Statement (.fxsubVS vw vd rt rd) := by
  show vWord 0b11011#5 rt rd 0b0#1 vw vd &&& vWordMask 31 0 0 1 0 0 =
    vWord 0b11011#5 0 0 0b0#1 0 0
  simp [vWord_and]

theorem WordFixedBits.fxsubSV (vw : VReg) (rt : Reg) (vd : VReg) (rd : Reg) :
    WordFixedBits.Statement (.fxsubSV vw rt vd rd) := by
  show vWord 0b11011#5 rt rd 0b1#1 vw vd &&& vWordMask 31 0 0 1 0 0 =
    vWord 0b11011#5 0 0 0b1#1 0 0
  simp [vWord_and]

theorem WordFixedBits.fxmulVV (vw : VReg) (vd : VReg) (vt : VReg) (rd : Reg) :
    WordFixedBits.Statement (.fxmulVV vw vd vt rd) := by
  show vWord 0b11100#5 vt rd 0b0#1 vw vd &&& vWordMask 31 0 0 1 0 0 =
    vWord 0b11100#5 0 0 0b0#1 0 0
  simp [vWord_and]

theorem WordFixedBits.fxmulVS (vw : VReg) (vd : VReg) (rt : Reg) (rd : Reg) :
    WordFixedBits.Statement (.fxmulVS vw vd rt rd) := by
  show vWord 0b11101#5 rt rd 0b0#1 vw vd &&& vWordMask 31 0 0 1 0 0 =
    vWord 0b11101#5 0 0 0b0#1 0 0
  simp [vWord_and]

theorem WordFixedBits.fxmulSV (vw : VReg) (rt : Reg) (vd : VReg) (rd : Reg) :
    WordFixedBits.Statement (.fxmulSV vw rt vd rd) := by
  show vWord 0b11101#5 rt rd 0b1#1 vw vd &&& vWordMask 31 0 0 1 0 0 =
    vWord 0b11101#5 0 0 0b1#1 0 0
  simp [vWord_and]

theorem WordFixedBits.add (rd : Reg) (rs : Reg) (rt : Reg) :
    WordFixedBits.Statement (.add rd rs rt) := by
  show rWord rs rt rd 0b00000#5 0b100000#6 &&& rWordMask 0 0 0 31 63 =
    rWord 0 0 0 0b00000#5 0b100000#6
  simp [rWord_and]

theorem WordFixedBits.addu (rd : Reg) (rs : Reg) (rt : Reg) :
    WordFixedBits.Statement (.addu rd rs rt) := by
  show rWord rs rt rd 0b00000#5 0b100001#6 &&& rWordMask 0 0 0 31 63 =
    rWord 0 0 0 0b00000#5 0b100001#6
  simp [rWord_and]

theorem WordFixedBits.sub (rd : Reg) (rs : Reg) (rt : Reg) :
    WordFixedBits.Statement (.sub rd rs rt) := by
  show rWord rs rt rd 0b00000#5 0b100010#6 &&& rWordMask 0 0 0 31 63 =
    rWord 0 0 0 0b00000#5 0b100010#6
  simp [rWord_and]

theorem WordFixedBits.subu (rd : Reg) (rs : Reg) (rt : Reg) :
    WordFixedBits.Statement (.subu rd rs rt) := by
  show rWord rs rt rd 0b00000#5 0b100011#6 &&& rWordMask 0 0 0 31 63 =
    rWord 0 0 0 0b00000#5 0b100011#6
  simp [rWord_and]

theorem WordFixedBits.and (rd : Reg) (rs : Reg) (rt : Reg) :
    WordFixedBits.Statement (.and rd rs rt) := by
  show rWord rs rt rd 0b00000#5 0b100100#6 &&& rWordMask 0 0 0 31 63 =
    rWord 0 0 0 0b00000#5 0b100100#6
  simp [rWord_and]

theorem WordFixedBits.or (rd : Reg) (rs : Reg) (rt : Reg) :
    WordFixedBits.Statement (.or rd rs rt) := by
  show rWord rs rt rd 0b00000#5 0b100101#6 &&& rWordMask 0 0 0 31 63 =
    rWord 0 0 0 0b00000#5 0b100101#6
  simp [rWord_and]

theorem WordFixedBits.xor (rd : Reg) (rs : Reg) (rt : Reg) :
    WordFixedBits.Statement (.xor rd rs rt) := by
  show rWord rs rt rd 0b00000#5 0b100110#6 &&& rWordMask 0 0 0 31 63 =
    rWord 0 0 0 0b00000#5 0b100110#6
  simp [rWord_and]

theorem WordFixedBits.nor (rd : Reg) (rs : Reg) (rt : Reg) :
    WordFixedBits.Statement (.nor rd rs rt) := by
  show rWord rs rt rd 0b00000#5 0b100111#6 &&& rWordMask 0 0 0 31 63 =
    rWord 0 0 0 0b00000#5 0b100111#6
  simp [rWord_and]

theorem WordFixedBits.slt (rd : Reg) (rs : Reg) (rt : Reg) :
    WordFixedBits.Statement (.slt rd rs rt) := by
  show rWord rs rt rd 0b00000#5 0b101010#6 &&& rWordMask 0 0 0 31 63 =
    rWord 0 0 0 0b00000#5 0b101010#6
  simp [rWord_and]

theorem WordFixedBits.sltu (rd : Reg) (rs : Reg) (rt : Reg) :
    WordFixedBits.Statement (.sltu rd rs rt) := by
  show rWord rs rt rd 0b00000#5 0b101011#6 &&& rWordMask 0 0 0 31 63 =
    rWord 0 0 0 0b00000#5 0b101011#6
  simp [rWord_and]

theorem WordFixedBits.addi (rt : Reg) (rs : Reg) (imm : BitVec 16) :
    WordFixedBits.Statement (.addi rt rs imm) := by
  show iWord 0b001000#6 rs rt imm &&& iWordMask 63 0 0 0 =
    iWord 0b001000#6 0 0 0
  simp [iWord_and]

theorem WordFixedBits.addiu (rt : Reg) (rs : Reg) (imm : BitVec 16) :
    WordFixedBits.Statement (.addiu rt rs imm) := by
  show iWord 0b001001#6 rs rt imm &&& iWordMask 63 0 0 0 =
    iWord 0b001001#6 0 0 0
  simp [iWord_and]

theorem WordFixedBits.slti (rt : Reg) (rs : Reg) (imm : BitVec 16) :
    WordFixedBits.Statement (.slti rt rs imm) := by
  show iWord 0b001010#6 rs rt imm &&& iWordMask 63 0 0 0 =
    iWord 0b001010#6 0 0 0
  simp [iWord_and]

theorem WordFixedBits.sltiu (rt : Reg) (rs : Reg) (imm : BitVec 16) :
    WordFixedBits.Statement (.sltiu rt rs imm) := by
  show iWord 0b001011#6 rs rt imm &&& iWordMask 63 0 0 0 =
    iWord 0b001011#6 0 0 0
  simp [iWord_and]

theorem WordFixedBits.andi (rt : Reg) (rs : Reg) (imm : BitVec 16) :
    WordFixedBits.Statement (.andi rt rs imm) := by
  show iWord 0b001100#6 rs rt imm &&& iWordMask 63 0 0 0 =
    iWord 0b001100#6 0 0 0
  simp [iWord_and]

theorem WordFixedBits.ori (rt : Reg) (rs : Reg) (imm : BitVec 16) :
    WordFixedBits.Statement (.ori rt rs imm) := by
  show iWord 0b001101#6 rs rt imm &&& iWordMask 63 0 0 0 =
    iWord 0b001101#6 0 0 0
  simp [iWord_and]

theorem WordFixedBits.xori (rt : Reg) (rs : Reg) (imm : BitVec 16) :
    WordFixedBits.Statement (.xori rt rs imm) := by
  show iWord 0b001110#6 rs rt imm &&& iWordMask 63 0 0 0 =
    iWord 0b001110#6 0 0 0
  simp [iWord_and]

theorem WordFixedBits.lui (rt : Reg) (imm : BitVec 16) :
    WordFixedBits.Statement (.lui rt imm) := by
  show iWord 0b001111#6 0b00000#5 rt imm &&& iWordMask 63 31 0 0 =
    iWord 0b001111#6 0b00000#5 0 0
  simp [iWord_and]

theorem WordFixedBits.sll (rd : Reg) (rt : Reg) (sa : BitVec 5) :
    WordFixedBits.Statement (.sll rd rt sa) := by
  show rWord 0b00000#5 rt rd sa 0b000000#6 &&& rWordMask 31 0 0 0 63 =
    rWord 0b00000#5 0 0 0 0b000000#6
  simp [rWord_and]

theorem WordFixedBits.srl (rd : Reg) (rt : Reg) (sa : BitVec 5) :
    WordFixedBits.Statement (.srl rd rt sa) := by
  show rWord 0b00000#5 rt rd sa 0b000010#6 &&& rWordMask 31 0 0 0 63 =
    rWord 0b00000#5 0 0 0 0b000010#6
  simp [rWord_and]

theorem WordFixedBits.sra (rd : Reg) (rt : Reg) (sa : BitVec 5) :
    WordFixedBits.Statement (.sra rd rt sa) := by
  show rWord 0b00000#5 rt rd sa 0b000011#6 &&& rWordMask 31 0 0 0 63 =
    rWord 0b00000#5 0 0 0 0b000011#6
  simp [rWord_and]

theorem WordFixedBits.sllv (rd : Reg) (rt : Reg) (rs : Reg) :
    WordFixedBits.Statement (.sllv rd rt rs) := by
  show rWord rs rt rd 0b00000#5 0b000100#6 &&& rWordMask 0 0 0 31 63 =
    rWord 0 0 0 0b00000#5 0b000100#6
  simp [rWord_and]

theorem WordFixedBits.srlv (rd : Reg) (rt : Reg) (rs : Reg) :
    WordFixedBits.Statement (.srlv rd rt rs) := by
  show rWord rs rt rd 0b00000#5 0b000110#6 &&& rWordMask 0 0 0 31 63 =
    rWord 0 0 0 0b00000#5 0b000110#6
  simp [rWord_and]

theorem WordFixedBits.srav (rd : Reg) (rt : Reg) (rs : Reg) :
    WordFixedBits.Statement (.srav rd rt rs) := by
  show rWord rs rt rd 0b00000#5 0b000111#6 &&& rWordMask 0 0 0 31 63 =
    rWord 0 0 0 0b00000#5 0b000111#6
  simp [rWord_and]

theorem WordFixedBits.mult (rs : Reg) (rt : Reg) :
    WordFixedBits.Statement (.mult rs rt) := by
  show rWord rs rt 0b00000#5 0b00000#5 0b011000#6 &&& rWordMask 0 0 31 31 63 =
    rWord 0 0 0b00000#5 0b00000#5 0b011000#6
  simp [rWord_and]

theorem WordFixedBits.multu (rs : Reg) (rt : Reg) :
    WordFixedBits.Statement (.multu rs rt) := by
  show rWord rs rt 0b00000#5 0b00000#5 0b011001#6 &&& rWordMask 0 0 31 31 63 =
    rWord 0 0 0b00000#5 0b00000#5 0b011001#6
  simp [rWord_and]

theorem WordFixedBits.div (rs : Reg) (rt : Reg) :
    WordFixedBits.Statement (.div rs rt) := by
  show rWord rs rt 0b00000#5 0b00000#5 0b011010#6 &&& rWordMask 0 0 31 31 63 =
    rWord 0 0 0b00000#5 0b00000#5 0b011010#6
  simp [rWord_and]

theorem WordFixedBits.divu (rs : Reg) (rt : Reg) :
    WordFixedBits.Statement (.divu rs rt) := by
  show rWord rs rt 0b00000#5 0b00000#5 0b011011#6 &&& rWordMask 0 0 31 31 63 =
    rWord 0 0 0b00000#5 0b00000#5 0b011011#6
  simp [rWord_and]

theorem WordFixedBits.mfhi (rd : Reg) :
    WordFixedBits.Statement (.mfhi rd) := by
  show rWord 0b00000#5 0b00000#5 rd 0b00000#5 0b010000#6 &&& rWordMask 31 31 0 31 63 =
    rWord 0b00000#5 0b00000#5 0 0b00000#5 0b010000#6
  simp [rWord_and]

theorem WordFixedBits.mthi (rs : Reg) :
    WordFixedBits.Statement (.mthi rs) := by
  show rWord rs 0b00000#5 0b00000#5 0b00000#5 0b010001#6 &&& rWordMask 0 31 31 31 63 =
    rWord 0 0b00000#5 0b00000#5 0b00000#5 0b010001#6
  simp [rWord_and]

theorem WordFixedBits.mflo (rd : Reg) :
    WordFixedBits.Statement (.mflo rd) := by
  show rWord 0b00000#5 0b00000#5 rd 0b00000#5 0b010010#6 &&& rWordMask 31 31 0 31 63 =
    rWord 0b00000#5 0b00000#5 0 0b00000#5 0b010010#6
  simp [rWord_and]

theorem WordFixedBits.mtlo (rs : Reg) :
    WordFixedBits.Statement (.mtlo rs) := by
  show rWord rs 0b00000#5 0b00000#5 0b00000#5 0b010011#6 &&& rWordMask 0 31 31 31 63 =
    rWord 0 0b00000#5 0b00000#5 0b00000#5 0b010011#6
  simp [rWord_and]

theorem WordFixedBits.lb (rt : Reg) (imm : BitVec 16) (rs : Reg) :
    WordFixedBits.Statement (.lb rt imm rs) := by
  show iWord 0b100000#6 rs rt imm &&& iWordMask 63 0 0 0 =
    iWord 0b100000#6 0 0 0
  simp [iWord_and]

theorem WordFixedBits.lbu (rt : Reg) (imm : BitVec 16) (rs : Reg) :
    WordFixedBits.Statement (.lbu rt imm rs) := by
  show iWord 0b100100#6 rs rt imm &&& iWordMask 63 0 0 0 =
    iWord 0b100100#6 0 0 0
  simp [iWord_and]

theorem WordFixedBits.lh (rt : Reg) (imm : BitVec 16) (rs : Reg) :
    WordFixedBits.Statement (.lh rt imm rs) := by
  show iWord 0b100001#6 rs rt imm &&& iWordMask 63 0 0 0 =
    iWord 0b100001#6 0 0 0
  simp [iWord_and]

theorem WordFixedBits.lhu (rt : Reg) (imm : BitVec 16) (rs : Reg) :
    WordFixedBits.Statement (.lhu rt imm rs) := by
  show iWord 0b100101#6 rs rt imm &&& iWordMask 63 0 0 0 =
    iWord 0b100101#6 0 0 0
  simp [iWord_and]

theorem WordFixedBits.lw (rt : Reg) (imm : BitVec 16) (rs : Reg) :
    WordFixedBits.Statement (.lw rt imm rs) := by
  show iWord 0b100011#6 rs rt imm &&& iWordMask 63 0 0 0 =
    iWord 0b100011#6 0 0 0
  simp [iWord_and]

theorem WordFixedBits.lwl (rt : Reg) (imm : BitVec 16) (rs : Reg) :
    WordFixedBits.Statement (.lwl rt imm rs) := by
  show iWord 0b100010#6 rs rt imm &&& iWordMask 63 0 0 0 =
    iWord 0b100010#6 0 0 0
  simp [iWord_and]

theorem WordFixedBits.lwr (rt : Reg) (imm : BitVec 16) (rs : Reg) :
    WordFixedBits.Statement (.lwr rt imm rs) := by
  show iWord 0b100110#6 rs rt imm &&& iWordMask 63 0 0 0 =
    iWord 0b100110#6 0 0 0
  simp [iWord_and]

theorem WordFixedBits.sb (rt : Reg) (imm : BitVec 16) (rs : Reg) :
    WordFixedBits.Statement (.sb rt imm rs) := by
  show iWord 0b101000#6 rs rt imm &&& iWordMask 63 0 0 0 =
    iWord 0b101000#6 0 0 0
  simp [iWord_and]

theorem WordFixedBits.sh (rt : Reg) (imm : BitVec 16) (rs : Reg) :
    WordFixedBits.Statement (.sh rt imm rs) := by
  show iWord 0b101001#6 rs rt imm &&& iWordMask 63 0 0 0 =
    iWord 0b101001#6 0 0 0
  simp [iWord_and]

theorem WordFixedBits.sw (rt : Reg) (imm : BitVec 16) (rs : Reg) :
    WordFixedBits.Statement (.sw rt imm rs) := by
  show iWord 0b101011#6 rs rt imm &&& iWordMask 63 0 0 0 =
    iWord 0b101011#6 0 0 0
  simp [iWord_and]

theorem WordFixedBits.swl (rt : Reg) (imm : BitVec 16) (rs : Reg) :
    WordFixedBits.Statement (.swl rt imm rs) := by
  show iWord 0b101010#6 rs rt imm &&& iWordMask 63 0 0 0 =
    iWord 0b101010#6 0 0 0
  simp [iWord_and]

theorem WordFixedBits.swr (rt : Reg) (imm : BitVec 16) (rs : Reg) :
    WordFixedBits.Statement (.swr rt imm rs) := by
  show iWord 0b101110#6 rs rt imm &&& iWordMask 63 0 0 0 =
    iWord 0b101110#6 0 0 0
  simp [iWord_and]

theorem WordFixedBits.ll (rt : Reg) (imm : BitVec 16) (rs : Reg) :
    WordFixedBits.Statement (.ll rt imm rs) := by
  show iWord 0b110000#6 rs rt imm &&& iWordMask 63 0 0 0 =
    iWord 0b110000#6 0 0 0
  simp [iWord_and]

theorem WordFixedBits.sc (rt : Reg) (imm : BitVec 16) (rs : Reg) :
    WordFixedBits.Statement (.sc rt imm rs) := by
  show iWord 0b111000#6 rs rt imm &&& iWordMask 63 0 0 0 =
    iWord 0b111000#6 0 0 0
  simp [iWord_and]

theorem WordFixedBits.sync :
    WordFixedBits.Statement .sync := by
  show rWord 0b00000#5 0b00000#5 0b00000#5 0b00000#5 0b001111#6 &&& rWordMask 31 31 31 31 63 =
    rWord 0b00000#5 0b00000#5 0b00000#5 0b00000#5 0b001111#6
  simp [rWord_and]

theorem WordFixedBits.beq (rs : Reg) (rt : Reg) (imm : BitVec 16) :
    WordFixedBits.Statement (.beq rs rt imm) := by
  show iWord 0b000100#6 rs rt imm &&& iWordMask 63 0 0 0 =
    iWord 0b000100#6 0 0 0
  simp [iWord_and]

theorem WordFixedBits.bne (rs : Reg) (rt : Reg) (imm : BitVec 16) :
    WordFixedBits.Statement (.bne rs rt imm) := by
  show iWord 0b000101#6 rs rt imm &&& iWordMask 63 0 0 0 =
    iWord 0b000101#6 0 0 0
  simp [iWord_and]

theorem WordFixedBits.blez (rs : Reg) (imm : BitVec 16) :
    WordFixedBits.Statement (.blez rs imm) := by
  show iWord 0b000110#6 rs 0b00000#5 imm &&& iWordMask 63 0 31 0 =
    iWord 0b000110#6 0 0b00000#5 0
  simp [iWord_and]

theorem WordFixedBits.bgtz (rs : Reg) (imm : BitVec 16) :
    WordFixedBits.Statement (.bgtz rs imm) := by
  show iWord 0b000111#6 rs 0b00000#5 imm &&& iWordMask 63 0 31 0 =
    iWord 0b000111#6 0 0b00000#5 0
  simp [iWord_and]

theorem WordFixedBits.bltz (rs : Reg) (imm : BitVec 16) :
    WordFixedBits.Statement (.bltz rs imm) := by
  show iWord 0b000001#6 rs 0b00000#5 imm &&& iWordMask 63 0 31 0 =
    iWord 0b000001#6 0 0b00000#5 0
  simp [iWord_and]

theorem WordFixedBits.bgez (rs : Reg) (imm : BitVec 16) :
    WordFixedBits.Statement (.bgez rs imm) := by
  show iWord 0b000001#6 rs 0b00001#5 imm &&& iWordMask 63 0 31 0 =
    iWord 0b000001#6 0 0b00001#5 0
  simp [iWord_and]

theorem WordFixedBits.bltzal (rs : Reg) (imm : BitVec 16) :
    WordFixedBits.Statement (.bltzal rs imm) := by
  show iWord 0b000001#6 rs 0b10000#5 imm &&& iWordMask 63 0 31 0 =
    iWord 0b000001#6 0 0b10000#5 0
  simp [iWord_and]

theorem WordFixedBits.bgezal (rs : Reg) (imm : BitVec 16) :
    WordFixedBits.Statement (.bgezal rs imm) := by
  show iWord 0b000001#6 rs 0b10001#5 imm &&& iWordMask 63 0 31 0 =
    iWord 0b000001#6 0 0b10001#5 0
  simp [iWord_and]

theorem WordFixedBits.beql (rs : Reg) (rt : Reg) (imm : BitVec 16) :
    WordFixedBits.Statement (.beql rs rt imm) := by
  show iWord 0b010100#6 rs rt imm &&& iWordMask 63 0 0 0 =
    iWord 0b010100#6 0 0 0
  simp [iWord_and]

theorem WordFixedBits.bnel (rs : Reg) (rt : Reg) (imm : BitVec 16) :
    WordFixedBits.Statement (.bnel rs rt imm) := by
  show iWord 0b010101#6 rs rt imm &&& iWordMask 63 0 0 0 =
    iWord 0b010101#6 0 0 0
  simp [iWord_and]

theorem WordFixedBits.blezl (rs : Reg) (imm : BitVec 16) :
    WordFixedBits.Statement (.blezl rs imm) := by
  show iWord 0b010110#6 rs 0b00000#5 imm &&& iWordMask 63 0 31 0 =
    iWord 0b010110#6 0 0b00000#5 0
  simp [iWord_and]

theorem WordFixedBits.bgtzl (rs : Reg) (imm : BitVec 16) :
    WordFixedBits.Statement (.bgtzl rs imm) := by
  show iWord 0b010111#6 rs 0b00000#5 imm &&& iWordMask 63 0 31 0 =
    iWord 0b010111#6 0 0b00000#5 0
  simp [iWord_and]

theorem WordFixedBits.bltzl (rs : Reg) (imm : BitVec 16) :
    WordFixedBits.Statement (.bltzl rs imm) := by
  show iWord 0b000001#6 rs 0b00010#5 imm &&& iWordMask 63 0 31 0 =
    iWord 0b000001#6 0 0b00010#5 0
  simp [iWord_and]

theorem WordFixedBits.bgezl (rs : Reg) (imm : BitVec 16) :
    WordFixedBits.Statement (.bgezl rs imm) := by
  show iWord 0b000001#6 rs 0b00011#5 imm &&& iWordMask 63 0 31 0 =
    iWord 0b000001#6 0 0b00011#5 0
  simp [iWord_and]

theorem WordFixedBits.bltzall (rs : Reg) (imm : BitVec 16) :
    WordFixedBits.Statement (.bltzall rs imm) := by
  show iWord 0b000001#6 rs 0b10010#5 imm &&& iWordMask 63 0 31 0 =
    iWord 0b000001#6 0 0b10010#5 0
  simp [iWord_and]

theorem WordFixedBits.bgezall (rs : Reg) (imm : BitVec 16) :
    WordFixedBits.Statement (.bgezall rs imm) := by
  show iWord 0b000001#6 rs 0b10011#5 imm &&& iWordMask 63 0 31 0 =
    iWord 0b000001#6 0 0b10011#5 0
  simp [iWord_and]

theorem WordFixedBits.j (target : BitVec 26) :
    WordFixedBits.Statement (.j target) := by
  show jWord 0b000010#6 target &&& jWordMask 63 0 =
    jWord 0b000010#6 0
  simp [jWord_and]

theorem WordFixedBits.jal (target : BitVec 26) :
    WordFixedBits.Statement (.jal target) := by
  show jWord 0b000011#6 target &&& jWordMask 63 0 =
    jWord 0b000011#6 0
  simp [jWord_and]

theorem WordFixedBits.jr (rs : Reg) :
    WordFixedBits.Statement (.jr rs) := by
  show rWord rs 0b00000#5 0b00000#5 0b00000#5 0b001000#6 &&& rWordMask 0 31 31 31 63 =
    rWord 0 0b00000#5 0b00000#5 0b00000#5 0b001000#6
  simp [rWord_and]

theorem WordFixedBits.jalr (rd : Reg) (rs : Reg) :
    WordFixedBits.Statement (.jalr rd rs) := by
  show rWord rs 0b00000#5 rd 0b00000#5 0b001001#6 &&& rWordMask 0 31 0 31 63 =
    rWord 0 0b00000#5 0 0b00000#5 0b001001#6
  simp [rWord_and]

theorem WordFixedBits.tge (rs : Reg) (rt : Reg) (code : BitVec 10) :
    WordFixedBits.Statement (.tge rs rt code) := by
  show trapWord rs rt code 0b110000#6 &&& trapWordMask 0 0 0 63 =
    trapWord 0 0 0 0b110000#6
  simp [trapWord_and]

theorem WordFixedBits.tgeu (rs : Reg) (rt : Reg) (code : BitVec 10) :
    WordFixedBits.Statement (.tgeu rs rt code) := by
  show trapWord rs rt code 0b110001#6 &&& trapWordMask 0 0 0 63 =
    trapWord 0 0 0 0b110001#6
  simp [trapWord_and]

theorem WordFixedBits.tlt (rs : Reg) (rt : Reg) (code : BitVec 10) :
    WordFixedBits.Statement (.tlt rs rt code) := by
  show trapWord rs rt code 0b110010#6 &&& trapWordMask 0 0 0 63 =
    trapWord 0 0 0 0b110010#6
  simp [trapWord_and]

theorem WordFixedBits.tltu (rs : Reg) (rt : Reg) (code : BitVec 10) :
    WordFixedBits.Statement (.tltu rs rt code) := by
  show trapWord rs rt code 0b110011#6 &&& trapWordMask 0 0 0 63 =
    trapWord 0 0 0 0b110011#6
  simp [trapWord_and]

theorem WordFixedBits.teq (rs : Reg) (rt : Reg) (code : BitVec 10) :
    WordFixedBits.Statement (.teq rs rt code) := by
  show trapWord rs rt code 0b110100#6 &&& trapWordMask 0 0 0 63 =
    trapWord 0 0 0 0b110100#6
  simp [trapWord_and]

theorem WordFixedBits.tne (rs : Reg) (rt : Reg) (code : BitVec 10) :
    WordFixedBits.Statement (.tne rs rt code) := by
  show trapWord rs rt code 0b110110#6 &&& trapWordMask 0 0 0 63 =
    trapWord 0 0 0 0b110110#6
  simp [trapWord_and]

theorem WordFixedBits.tgei (rs : Reg) (imm : BitVec 16) :
    WordFixedBits.Statement (.tgei rs imm) := by
  show iWord 0b000001#6 rs 0b01000#5 imm &&& iWordMask 63 0 31 0 =
    iWord 0b000001#6 0 0b01000#5 0
  simp [iWord_and]

theorem WordFixedBits.tgeiu (rs : Reg) (imm : BitVec 16) :
    WordFixedBits.Statement (.tgeiu rs imm) := by
  show iWord 0b000001#6 rs 0b01001#5 imm &&& iWordMask 63 0 31 0 =
    iWord 0b000001#6 0 0b01001#5 0
  simp [iWord_and]

theorem WordFixedBits.tlti (rs : Reg) (imm : BitVec 16) :
    WordFixedBits.Statement (.tlti rs imm) := by
  show iWord 0b000001#6 rs 0b01010#5 imm &&& iWordMask 63 0 31 0 =
    iWord 0b000001#6 0 0b01010#5 0
  simp [iWord_and]

theorem WordFixedBits.tltiu (rs : Reg) (imm : BitVec 16) :
    WordFixedBits.Statement (.tltiu rs imm) := by
  show iWord 0b000001#6 rs 0b01011#5 imm &&& iWordMask 63 0 31 0 =
    iWord 0b000001#6 0 0b01011#5 0
  simp [iWord_and]

theorem WordFixedBits.teqi (rs : Reg) (imm : BitVec 16) :
    WordFixedBits.Statement (.teqi rs imm) := by
  show iWord 0b000001#6 rs 0b01100#5 imm &&& iWordMask 63 0 31 0 =
    iWord 0b000001#6 0 0b01100#5 0
  simp [iWord_and]

theorem WordFixedBits.tnei (rs : Reg) (imm : BitVec 16) :
    WordFixedBits.Statement (.tnei rs imm) := by
  show iWord 0b000001#6 rs 0b01110#5 imm &&& iWordMask 63 0 31 0 =
    iWord 0b000001#6 0 0b01110#5 0
  simp [iWord_and]

theorem WordFixedBits.syscall (code : BitVec 20) :
    WordFixedBits.Statement (.syscall code) := by
  show codeWord code 0b001100#6 &&& codeWordMask 0 63 =
    codeWord 0 0b001100#6
  simp [codeWord_and]

theorem WordFixedBits.brk (code : BitVec 20) :
    WordFixedBits.Statement (.brk code) := by
  show codeWord code 0b001101#6 &&& codeWordMask 0 63 =
    codeWord 0 0b001101#6
  simp [codeWord_and]

end Sys2Proof.Laws
end

