-- ==== Sys2Proof/Tests/Slice0.lean ====
section
/-! SUPPORT. The model's own tests: the well-formedness checks, the decoding of a word of every instruction
written out in the spec, one step of an instruction on a small state, and for every statement that has
hypotheses a concrete state and operands that meet them. -/

namespace Sys2Proof.Tests

open Sys2Proof Sys2Proof.Machine

/-! ## Well-formedness: an ill-formed term for each check -/

theorem test_wellFormed_control_register :
    Instr.wellFormed (.cfvu 2 3) = false ∧ Instr.wellFormed (.cfvu 2 12) = true ∧
    Instr.wellFormed (.ctvu 2 0) = false ∧ Instr.wellFormed (.ctvu 2 1) = false ∧
    Instr.wellFormed (.ctvu 2 13) = false ∧ Instr.wellFormed (.ctvu 2 8) = true := by
  decide

theorem test_wellFormed_auto_increment :
    ([.lbaiV 1 4 4, .lhaiV 1 4 4, .lwaiV 1 4 4, .lbuaiV 1 4 4, .lhuaiV 1 4 4, .sbaiV 1 4 4, .shaiV 1 4 4,
      .swaiV 1 4 4] : List Instr).all (fun i => !i.wellFormed) = true ∧
    Instr.wellFormed (.lwaiV 1 4 5) = true := by
  decide

theorem test_wellFormed_link_register :
    ([.bltzal 31 0, .bgezal 31 0, .bltzall 31 0, .bgezall 31 0, .jalr 31 31] : List Instr).all
      (fun i => !i.wellFormed) = true ∧
    Instr.wellFormed (.bltzal 4 0) = true ∧ Instr.wellFormed (.jalr 31 25) = true := by
  decide

/-! ## Decoding

The words are those printed beside the assembly text in the example of each instruction's rule (40 to 48);
those in binary are written out from the rule's encoding line. -/

/-- Whether each word decodes to the instruction beside it. -/
def decodesTo (l : List (Word × Instr)) : Bool :=
  l.all fun p => decide (decodeWord p.1 = .instr p.2)

theorem test_decode_control_registers : decodesTo [
    (0x48421000, .cfvu 2 2),
    (0x48C31000, .ctvu 3 2)] = true := by
  decide

theorem test_decode_insert_extract : decodesTo [
    (0x4A022161, .vextV 1 2 4),
    (0x4A253263, .vinsS 5 3 6),
    (0x4A273363, .vextS 7 3 6)] = true := by
  decide

theorem test_decode_vector_memory_1 : decodesTo [
    (0x4A652001, .lbaiV 1 4 5),
    (0x4A652021, .lhaiV 1 4 5),
    (0x4A652061, .lwaiV 1 4 5),
    (0x4A652081, .lbuaiV 1 4 5),
    (0x4A6520A1, .lhuaiV 1 4 5),
    (0x4A422201, .lbxV 1 4 2),
    (0x4A422221, .lhxV 1 4 2),
    (0x4A422261, .lwxV 1 4 2),
    (0x4A422281, .lbuxV 1 4 2),
    (0x4A4222A1, .lhuxV 1 4 2),
    (0x4A652201, .lbstV 1 4 5),
    (0x4A652221, .lhstV 1 4 5),
    (0x4A652261, .lwstV 1 4 5),
    (0x4A652281, .lbustV 1 4 5),
    (0x4A6522A1, .lhustV 1 4 5)] = true := by
  decide

theorem test_decode_vector_memory_2 : decodesTo [
    (0x4A652101, .sbaiV 1 4 5),
    (0x4A652121, .shaiV 1 4 5),
    (0x4A652161, .swaiV 1 4 5),
    (0x4A422301, .sbxV 1 4 2),
    (0x4A422321, .shxV 1 4 2),
    (0x4A422361, .swxV 1 4 2),
    (0x4A652301, .sbstV 1 4 5),
    (0x4A652321, .shstV 1 4 5),
    (0x4A652361, .swstV 1 4 5)] = true := by
  decide

theorem test_decode_vector_integer_1 : decodesTo [
    (0x4A83A022, .andVV 1 2 3),
    (0x4AA5A022, .andVS 1 2 5),
    (0x4A83A822, .orVV 1 2 3),
    (0x4AA5A822, .orVS 1 2 5),
    (0x4A83B022, .xorVV 1 2 3),
    (0x4AA5B022, .xorVS 1 2 5),
    (0x4A83B822, .norVV 1 2 3),
    (0x4AA5B822, .norVS 1 2 5),
    (0x4A838022, .addVV 1 2 3),
    (0x4AA58022, .addVS 1 2 5),
    (0x4A838822, .adduVV 1 2 3),
    (0x4AA58822, .adduVS 1 2 5),
    (0x4A830022, .subVV 1 2 3),
    (0x4AA50022, .subVS 1 2 5),
    (0x4AA50422, .subSV 1 5 2)] = true := by
  decide

theorem test_decode_vector_integer_2 : decodesTo [
    (0x4A830822, .subuVV 1 2 3),
    (0x4AA50822, .subuVS 1 2 5),
    (0x4AA50C22, .subuSV 1 5 2),
    (0x4A834022, .sllvVV 1 2 3),
    (0x4AA54022, .sllvVS 1 2 5),
    (0x4AA54422, .sllvSV 1 5 2),
    (0x4A835822, .sravVV 1 2 3),
    (0x4AA55822, .sravVS 1 2 5),
    (0x4AA55C22, .sravSV 1 5 2),
    (0x4A834822, .srlvVV 1 2 3),
    (0x4AA54822, .srlvVS 1 2 5),
    (0x4AA54C22, .srlvSV 1 5 2)] = true := by
  decide

theorem test_decode_vector_compare_1 : decodesTo [
    (0x4A836022, .sltVV 1 2 3),
    (0x4AA56022, .sltVS 1 2 5),
    (0x4AA56422, .sltSV 1 5 2),
    (0x4A836822, .sltuVV 1 2 3),
    (0x4AA56822, .sltuVS 1 2 5),
    (0x4AA56C22, .sltuSV 1 5 2),
    (0x4A837022, .seqVV 1 2 3),
    (0x4AA57022, .seqVS 1 2 5),
    (0x4A832002, .fltVV 2 3),
    (0x4AA52002, .fltVS 2 5),
    (0x4AA52402, .fltSV 5 2),
    (0x4A832802, .fltuVV 2 3),
    (0x4AA52802, .fltuVS 2 5),
    (0x4AA52C02, .fltuSV 5 2),
    (0x4A833002, .feqVV 2 3)] = true := by
  decide

theorem test_decode_vector_compare_2 : decodesTo [
    (0x4AA53002, .feqVS 2 5),
    (0x4A83C822, .cmvnezVV 1 2 3),
    (0x4A83D022, .cmvgezVV 1 2 3),
    (0x4A83D822, .cmvlezVV 1 2 3),
    (0x4A83E822, .cmveqzVV 1 2 3),
    (0x4A83F022, .cmvltzVV 1 2 3),
    (0x4A83F822, .cmvgtzVV 1 2 3),
    (0x4AA5C822, .cmvnezVS 1 2 5),
    (0x4AA5D022, .cmvgezVS 1 2 5),
    (0x4AA5D822, .cmvlezVS 1 2 5),
    (0x4AA5E822, .cmveqzVS 1 2 5),
    (0x4AA5F022, .cmvltzVS 1 2 5),
    (0x4AA5F822, .cmvgtzVS 1 2 5)] = true := by
  decide

theorem test_decode_fixed_point : decodesTo [
    (0x4B033022, .fxaddVV 1 2 3 6),
    (0x4B253022, .fxaddVS 1 2 5 6),
    (0x4B253422, .fxaddSV 1 5 2 6),
    (0x4B433022, .fxsubVV 1 2 3 6),
    (0x4B653022, .fxsubVS 1 2 5 6),
    (0x4B653422, .fxsubSV 1 5 2 6),
    (0x4B833022, .fxmulVV 1 2 3 6),
    (0x4BA53022, .fxmulVS 1 2 5 6),
    (0x4BA53422, .fxmulSV 1 5 2 6)] = true := by
  decide

theorem test_decode_scalar_compute_1 : decodesTo [
    (0x00851020, .add 2 4 5),
    (0x00851021, .addu 2 4 5),
    (0x00851022, .sub 2 4 5),
    (0x00851023, .subu 2 4 5),
    (0x00851024, .and 2 4 5),
    (0x00851025, .or 2 4 5),
    (0x00851026, .xor 2 4 5),
    (0x00851027, .nor 2 4 5),
    (0x0085102A, .slt 2 4 5),
    (0x0085102B, .sltu 2 4 5),
    (0x20820001, .addi 2 4 1),
    (0x24020020, .addiu 2 0 32),
    (0x2882FFFF, .slti 2 4 0xFFFF),
    (0x2C82FFFF, .sltiu 2 4 0xFFFF),
    (0x3082FF00, .andi 2 4 0xFF00)] = true := by
  decide

theorem test_decode_scalar_compute_2 : decodesTo [
    (0x34828000, .ori 2 4 0x8000),
    (0x388200FF, .xori 2 4 0xFF),
    (0x3C028000, .lui 2 0x8000),
    (0x00051100, .sll 2 5 4),
    (0x00051102, .srl 2 5 4),
    (0x00051103, .sra 2 5 4),
    (0x00851004, .sllv 2 5 4),
    (0x00851006, .srlv 2 5 4),
    (0x00851007, .srav 2 5 4),
    (0x00850018, .mult 4 5),
    (0x00850019, .multu 4 5),
    (0x0085001A, .div 4 5),
    (0x0085001B, .divu 4 5),
    (0x00001010, .mfhi 2),
    (0x00800011, .mthi 4)] = true := by
  decide

theorem test_decode_scalar_compute_3 : decodesTo [
    (0x00001012, .mflo 2),
    (0x00800013, .mtlo 4)] = true := by
  decide

theorem test_decode_scalar_system_1 : decodesTo [
    (0x80820001, .lb 2 1 4),
    (0x90820001, .lbu 2 1 4),
    (0x84820000, .lh 2 0 4),
    (0x94820002, .lhu 2 2 4),
    (0x8C820000, .lw 2 0 4),
    (0x88820001, .lwl 2 1 4),
    (0x98820001, .lwr 2 1 4),
    (0xA0820003, .sb 2 3 4),
    (0xA4820002, .sh 2 2 4),
    (0xAC820000, .sw 2 0 4),
    (0xA8820001, .swl 2 1 4),
    (0xB8820001, .swr 2 1 4),
    (0b110000_00100_00101_1111111111111011, .ll 5 0xFFFB 4),
    (0xE0820000, .sc 2 0 4),
    (0b000000_00000_00000_00000_00000_001111, .sync)] = true := by
  decide

theorem test_decode_scalar_system_2 : decodesTo [
    (0b000100_00100_00101_1111111111111011, .beq 4 5 0xFFFB),
    (0x1500FFFB, .bne 8 0 0xFFFB),
    (0x18800002, .blez 4 2),
    (0x1C800002, .bgtz 4 2),
    (0x04800002, .bltz 4 2),
    (0x04810002, .bgez 4 2),
    (0x04900002, .bltzal 4 2),
    (0b000001_00100_10001_1111111111111011, .bgezal 4 0xFFFB),
    (0x50850004, .beql 4 5 4),
    (0b010101_00100_00101_1111111111111011, .bnel 4 5 0xFFFB),
    (0b010110_00100_00000_1111111111111011, .blezl 4 0xFFFB),
    (0b010111_00100_00000_1111111111111011, .bgtzl 4 0xFFFB),
    (0b000001_00100_00010_1111111111111011, .bltzl 4 0xFFFB),
    (0b000001_00100_00011_1111111111111011, .bgezl 4 0xFFFB),
    (0b000001_00100_10010_1111111111111011, .bltzall 4 0xFFFB)] = true := by
  decide

theorem test_decode_scalar_system_3 : decodesTo [
    (0b000001_00100_10011_1111111111111011, .bgezall 4 0xFFFB),
    (0b000010_10000000000000000100000100, .j 0x2000104),
    (0x0C000100, .jal 0x100),
    (0x03E00008, .jr 31),
    (0x0320F809, .jalr 31 25),
    (0b000000_00100_00101_1010100101_110000, .tge 4 5 0x2A5),
    (0b000000_00100_00101_1010100101_110001, .tgeu 4 5 0x2A5),
    (0b000000_00100_00101_1010100101_110010, .tlt 4 5 0x2A5),
    (0b000000_00100_00101_1010100101_110011, .tltu 4 5 0x2A5),
    (0b000000_00100_00101_1010100101_110100, .teq 4 5 0x2A5),
    (0b000000_00100_00101_1010100101_110110, .tne 4 5 0x2A5),
    (0b000001_00100_01000_1111111111111011, .tgei 4 0xFFFB),
    (0b000001_00100_01001_1111111111111011, .tgeiu 4 0xFFFB),
    (0b000001_00100_01010_1111111111111011, .tlti 4 0xFFFB),
    (0b000001_00100_01011_1111111111111011, .tltiu 4 0xFFFB)] = true := by
  decide

theorem test_decode_scalar_system_4 : decodesTo [
    (0b000001_00100_01100_1111111111111011, .teqi 4 0xFFFB),
    (0b000001_00100_01110_1111111111111011, .tnei 4 0xFFFB),
    (0b000000_10011010010111000011_001100, .syscall 0x9A5C3),
    (0b000000_10011010010111000011_001101, .brk 0x9A5C3)] = true := by
  decide

/-- Words that are no instruction: reserved coprocessor-2 words, coprocessors 0, 1 and 3, unassigned major
opcodes, a must-be-zero field. -/
theorem test_decode_no_instruction :
    decodeWord 0x4BC33022 = .cop2Reserved ∧ decodeWord 0x4A838422 = .cop2Reserved ∧
    decodeWord 0x40026000 = .cop0 ∧ decodeWord 0x46020840 = .cop1 ∧ decodeWord 0x4C000000 = .cop3 ∧
    decodeWord 0x7C000000 = .reserved ∧ decodeWord 0x00241040 = .mustBeZero := by
  decide

/-- The bit numbering of the opcode table: bit 0 is the least significant bit of the word. -/
theorem test_decodeTableWord :
    decodeTableWord 32 0x4A838022 = some (.addVV 1 2 3) ∧ decodeTableWord 32 0x4BC33022 = none := by
  decide

/-! ## One step on a small state

Every expected result is a derived vector of 95_test_vectors.md, part 2 (its number is in the name), or the
worked example of the instruction's own rule. -/

/-- A state with the bytes of family 42: `80 01 FF 7F 12 34 56 78` at `0x1000`, which `$4` holds; `vlr = 2`. -/
def loads : State :=
  { State.reset with
    mem := [(0x1000, 0x80), (0x1001, 0x01), (0x1002, 0xFF), (0x1003, 0x7F), (0x1004, 0x12), (0x1005, 0x34),
      (0x1006, 0x56), (0x1007, 0x78)]
    gpr := (Vector.replicate 32 0).set 4 0x1000
    vlr := 2 }

/-- A state in little-endian byte order. -/
def little (s : State) : State := { s with cfg := { s.cfg with endian := .little } }

/-- A state with the first elements of a vector register given. -/
def elems (s : State) (j : VReg) (l : List Word) : State := s.setV j l.length fun k => l.getD k 0

/-- A state with the vectors of families 43 and 44: `vlr = 4`, `x[5] = 3`. -/
def ints : State :=
  elems (elems { State.reset with vlr := 4, gpr := (Vector.replicate 32 0).set 5 3 }
    2 [0x7FFFFFFF, 0x80000000, 5, 0xFFFFFFFF]) 3 [1, 0xFFFFFFFF, 0xFFFFFFFB, 0x21]

/-- The state of the conditional moves of family 44. -/
def moves : State :=
  elems (elems ints 4 [0, 1, 0xFFFFFFFF, 0x80000000]) 1 [0x11111111, 0x22222222, 0x33333333, 0x44444444]

/-- The state of a scalar test: `x[4]` and `x[5]`. -/
def scalar (a b : Word) : State := (State.reset.setX 4 a).setX 5 b

/-- One step with a word placed at `pc`. -/
def run (s : State) (w : Nat) : Result := step (s.withFetchWord 32 w)

/-- The step completes, the next instruction is at `0x404`, and the state has a property. -/
def completes (r : Result) (p : State → Bool) : Bool :=
  match r with
  | .next t => t.trap.isNone && t.pc == 0x404 && p t
  | .fault _ => false
  | .refused _ => false

/-- The exception of a step: its cause, `epc`, `bd`. -/
def raised (r : Result) : Option (Cause × Word × Bool) :=
  match r with
  | .next t => t.trap.map fun u => (u.cause, u.epc, u.bd)
  | .fault _ => none
  | .refused _ => none

/-- The refusal of a step. -/
def refusal (r : Result) : Option Refusal :=
  match r with
  | .next _ => none
  | .fault _ => none
  | .refused u => some u

/-- The first elements of a vector register. -/
def firsts (t : State) (j : VReg) (n : Nat) : List Word := (List.range n).map (t.v j)

/-- Eight bytes of memory. -/
def bytes (t : State) : List Byte := (List.range 8).map fun k => t.mem.read (0x1000 + k)

theorem test_T1_ctvu_vlr :
    completes (run (State.reset.setX 8 0x120) 0x48C81000) (fun t => t.vlr == 0x20) = true := by
  decide

theorem test_T2_cfvu_vcond :
    completes (run { State.reset with vcond := 0xFFFF0001 } 0x48422000)
      (fun t => t.x 2 == 0xFFFF0001) = true := by
  decide

theorem test_T5_cfvu_invalid : refusal (run State.reset 0x48421800) = some .invalidControlRegister := by
  decide

theorem test_T7_ctvu_vrev : refusal (run State.reset 0x48C80000) = some .readOnlyControlRegister := by
  decide

theorem test_T10_cu2_off :
    raised (run { State.reset with cu2 := false } 0x48421000)
      = some (.coprocessorUnusable, 0x400, false) := by
  decide

theorem test_T14_vins_s :
    completes (run ((State.reset.setX 5 7).setX 6 0x103) 0x4A253263) (fun t => t.v 3 3 == 7) = true := by
  decide

theorem test_T16_vins_s_range :
    raised (run ((State.reset.setX 5 7).setX 6 32) 0x4A253263) = some (.vectorOperation, 0x400, false) := by
  decide

theorem test_T18_vins_s_absent :
    raised (run ((State.reset.setX 5 7).setX 6 1) 0x4A253270)
      = some (.reservedInstruction, 0x400, false) := by
  decide

theorem test_T20_vext_s :
    completes (run ((elems State.reset 3 [1, 2, 3, 0x55]).setX 6 3) 0x4A263363)
      (fun t => t.x 6 == 0x55) = true := by
  decide

theorem test_T25_vext_v :
    completes (run ((elems { State.reset with vlr := 4 } 1 [100, 101, 102, 103, 104, 105]).setX 4 2) 0x4A012161)
      (fun t => firsts t 1 6 == [102, 103, 104, 105, 104, 105]) = true := by
  decide

/-- The range test of `vext.v`, and the two cases that the spec refuses. -/
theorem test_T24_T26_T28_vext_v_range :
    raised (run (({ State.reset with vlr := 4 } : State).setX 4 29) 0x4A022161)
      = some (.vectorOperation, 0x400, false) ∧
    refusal (run (({ State.reset with vlr := 32 } : State).setX 4 224) 0x4A022161)
      = some .extractIndexWrap ∧
    refusal (run (({ State.reset with vlr := 0 } : State).setX 4 40) 0x4A022161)
      = some .extractRangeUnstated := by
  decide

theorem test_T30_lbai :
    completes (run (loads.setX 5 2) 0x4A652001)
      (fun t => firsts t 1 2 == [0xFFFFFF80, 1] && t.x 4 == 0x1002) = true := by
  decide

theorem test_T31_lbuai :
    completes (run (loads.setX 5 2) 0x4A652081) (fun t => firsts t 1 2 == [0x80, 1]) = true := by
  decide

theorem test_T32_lhai :
    completes (run (loads.setX 5 4) 0x4A652021)
      (fun t => firsts t 1 2 == [0xFFFF8001, 0xFFFFFF7F]) = true := by
  decide

theorem test_T33_lhuai :
    completes (run (loads.setX 5 4) 0x4A6520A1) (fun t => firsts t 1 2 == [0x8001, 0xFF7F]) = true := by
  decide

theorem test_T46_lwai :
    completes (run (loads.setX 5 0xFFFFFFF8) 0x4A652061)
      (fun t => firsts t 1 2 == [0x8001FF7F, 0x12345678] && t.x 4 == 0xFF8) = true := by
  decide

theorem test_T37_lwai_little :
    completes (run (little (loads.setX 5 8)) 0x4A652061)
      (fun t => firsts t 1 2 == [0x7FFF0180, 0x78563412]) = true := by
  decide

theorem test_T38_lhst :
    completes (run (loads.setX 5 4) 0x4A652221) (fun t => firsts t 1 2 == [0xFFFF8001, 0x1234]) = true := by
  decide

theorem test_T39_lwst :
    completes (run ((loads.setX 4 0x1004).setX 5 0xFFFFFFFC) 0x4A652261)
      (fun t => firsts t 1 2 == [0x12345678, 0x8001FF7F]) = true := by
  decide

theorem test_T40_lbust :
    completes (run ({ loads with vlr := 3 } : State) 0x4A652281)
      (fun t => firsts t 1 3 == [0x80, 0x80, 0x80]) = true := by
  decide

theorem test_T41_lwx :
    completes (run (elems loads 2 [4, 0]) 0x4A422261)
      (fun t => firsts t 1 2 == [0x12345678, 0x8001FF7F]) = true := by
  decide

theorem test_T42_lbx_same_register :
    completes (run (elems loads 2 [3, 0]) 0x4A422202)
      (fun t => firsts t 2 2 == [0x7F, 0xFFFFFF80]) = true := by
  decide

theorem test_T47_lhai_misaligned :
    raised (run (loads.setX 4 0x1001) 0x4A652021) = some (.vectorAddress, 0x400, false) := by
  decide

theorem test_T49_lwx_misaligned :
    raised (run (elems loads 2 [0, 1]) 0x4A422261) = some (.vectorAddress, 0x400, false) := by
  decide

theorem test_T52_lwai_same_register : refusal (run loads 0x4A642061) = some .autoIncrementSameRegister := by
  decide

theorem test_T56_sbai :
    completes (run ((elems loads 1 [0x12345680, 0xFFFFFF02]).setX 5 2) 0x4A652101)
      (fun t => bytes t == [0x80, 0x02, 0xFF, 0x7F, 0x12, 0x34, 0x56, 0x78]) = true := by
  decide

theorem test_T57_shst :
    completes (run ((elems loads 1 [0xAAAA1122, 0xBBBB3344]).setX 5 4) 0x4A652321)
      (fun t => bytes t == [0x11, 0x22, 0xFF, 0x7F, 0x33, 0x44, 0x56, 0x78]) = true := by
  decide

theorem test_T60_swx_little :
    completes (run (little (elems (elems loads 1 [0x11223344, 0x55667788]) 2 [4, 0])) 0x4A422361)
      (fun t => bytes t == [0x88, 0x77, 0x66, 0x55, 0x44, 0x33, 0x22, 0x11]) = true := by
  decide

theorem test_T64_add_vv :
    completes (run ints 0x4A838022)
      (fun t => firsts t 1 4 == [0x80000000, 0x7FFFFFFF, 0, 0x20] && t.vovf == 3) = true := by
  decide

theorem test_T66_add_vs :
    completes (run ints 0x4AA58022)
      (fun t => firsts t 1 4 == [0x80000002, 0x80000003, 8, 2] && t.vovf == 1) = true := by
  decide

theorem test_T67_sub_vv :
    completes (run ints 0x4A830022)
      (fun t => firsts t 1 4 == [0x7FFFFFFE, 0x80000001, 10, 0xFFFFFFDE] && t.vovf == 0) = true := by
  decide

theorem test_T69_sub_sv :
    completes (run ints 0x4AA50422)
      (fun t => firsts t 1 4 == [0x80000004, 0x80000003, 0xFFFFFFFE, 4] && t.vovf == 2) = true := by
  decide

theorem test_T72_add_vv_register_0 :
    completes (run ints 0x4A838002) (fun t => firsts t 0 4 == [0, 0, 0, 0] && t.vovf == 3) = true := by
  decide

theorem test_T74_and_vv :
    completes (run ints 0x4A83A022) (fun t => firsts t 1 4 == [1, 0x80000000, 1, 0x21]) = true := by
  decide

theorem test_T75_or_vs :
    completes (run ints 0x4AA5A822)
      (fun t => firsts t 1 4 == [0x7FFFFFFF, 0x80000003, 7, 0xFFFFFFFF]) = true := by
  decide

theorem test_T77_nor_vs :
    completes (run ints 0x4AA5B822)
      (fun t => firsts t 1 4 == [0x80000000, 0x7FFFFFFC, 0xFFFFFFF8, 0]) = true := by
  decide

theorem test_T80_sllv_vv :
    completes (run ints 0x4A834022)
      (fun t => firsts t 1 4 == [0xFFFFFFFE, 0, 0x28000000, 0xFFFFFFFE]) = true := by
  decide

theorem test_T81_srlv_vv :
    completes (run ints 0x4A834822) (fun t => firsts t 1 4 == [0x3FFFFFFF, 1, 0, 0x7FFFFFFF]) = true := by
  decide

theorem test_T82_srav_vv :
    completes (run ints 0x4A835822)
      (fun t => firsts t 1 4 == [0x3FFFFFFF, 0xFFFFFFFF, 0, 0xFFFFFFFF]) = true := by
  decide

theorem test_T85_sllv_sv :
    completes (run ints 0x4AA54423) (fun t => firsts t 1 4 == [6, 0x80000000, 0x18000000, 6]) = true := by
  decide

theorem test_T89_vlr_33 :
    raised (run { ints with vlr := 33 } 0x4A838022) = some (.vectorOperation, 0x400, false) := by
  decide

theorem test_T92_reserved_function :
    raised (run ints 0x4A831022) = some (.reservedInstruction, 0x400, false) := by
  decide

theorem test_T93_slt_vv : completes (run ints 0x4A836022) (fun t => firsts t 1 4 == [0, 1, 0, 1]) = true := by
  decide

theorem test_T94_sltu_vv :
    completes (run ints 0x4A836822) (fun t => firsts t 1 4 == [0, 1, 1, 0]) = true := by
  decide

theorem test_T96_slt_sv : completes (run ints 0x4AA56422) (fun t => firsts t 1 4 == [1, 0, 1, 0]) = true := by
  decide

theorem test_T100_flt_vv :
    completes (run { ints with vcond := 0xFFFFFFF0 } 0x4A832002) (fun t => t.vcond == 0xFFFFFFFA) = true := by
  decide

theorem test_T101_fltu_vv : completes (run ints 0x4A832802) (fun t => t.vcond == 6) = true := by
  decide

theorem test_T105_feq_vs : completes (run moves 0x4AA03004) (fun t => t.vcond == 1) = true := by
  decide

theorem test_T108_cmvnez_vv :
    completes (run moves 0x4A83C824)
      (fun t => firsts t 1 4 == [0x11111111, 0xFFFFFFFF, 0xFFFFFFFB, 0x21]) = true := by
  decide

theorem test_T109_cmvgez_vv :
    completes (run moves 0x4A83D024)
      (fun t => firsts t 1 4 == [1, 0xFFFFFFFF, 0x33333333, 0x44444444]) = true := by
  decide

theorem test_T110_cmvlez_vv :
    completes (run moves 0x4A83D824) (fun t => firsts t 1 4 == [1, 0x22222222, 0xFFFFFFFB, 0x21]) = true := by
  decide

theorem test_T114_cmvltz_vs :
    completes (run moves 0x4AA5F024) (fun t => firsts t 1 4 == [0x11111111, 0x22222222, 3, 3]) = true := by
  decide

theorem test_T116_cmveqz_vs :
    completes (run { moves with vlr := 3 } 0x4AA5E820)
      (fun t => firsts t 1 4 == [3, 3, 3, 0x44444444]) = true := by
  decide

theorem test_T120_fxmul_nearest_even :
    completes (run (((elems ints 2 [5, 6, 7, 0xFFFFFFFB]).setX 5 1).setX 6 0x002) 0x4BA53022)
      (fun t => firsts t 1 4 == [1, 2, 2, 0xFFFFFFFF] && t.vsat == 0) = true := by
  decide

theorem test_T121_fxmul_truncate :
    completes (run (((elems ints 2 [5, 6, 7, 0xFFFFFFFB]).setX 5 1).setX 6 0x602) 0x4BA53022)
      (fun t => firsts t 1 4 == [1, 1, 1, 0xFFFFFFFE]) = true := by
  decide

theorem test_T123_fxmul_jamming :
    completes (run (((elems ints 2 [5, 6, 7, 0xFFFFFFFB]).setX 5 1).setX 6 0xA02) 0x4BA53022)
      (fun t => firsts t 1 4 == [1, 1, 1, 0xFFFFFFFF]) = true := by
  decide

theorem test_T125_fxadd_vv :
    completes (run
     (((elems (elems ints 2 [0x7FFFFFFF, 0x80000000, 1, 0xFFFFFFFF]) 3 [1, 0xFFFFFFFF, 2, 1]).setX 5 3).setX 6 0) 0x4B033022)
      (fun t => firsts t 1 4 == [0x7FFFFFFF, 0x80000000, 3, 0] && t.vsat == 3) = true := by
  decide

theorem test_T126_fxsub_vv :
    completes (run
     (((elems (elems ints 2 [0x7FFFFFFF, 0x80000000, 1, 0]) 3 [0xFFFFFFFF, 1, 2, 0x80000000]).setX 5 3).setX 6 0) 0x4B433022)
      (fun t => firsts t 1 4 == [0x7FFFFFFF, 0x80000000, 0xFFFFFFFF, 0x7FFFFFFF] && t.vsat == 0xB) = true := by
  decide

theorem test_T130_fxsub_sv :
    completes (run (((elems ints 2 [1, 2, 3, 0xFFFFFFFF]).setX 5 10).setX 6 1) 0x4B653422)
      (fun t => firsts t 1 4 == [10, 9, 8, 10]) = true := by
  decide

theorem test_T131_fxmul_vv :
    completes (run
     (((elems (elems ints 2 [0x7FFF, 0x8000, 0x18000, 0x4000]) 3 [0x7FFF, 0x8000, 0x8000, 0x2000]).setX 5 3).setX 6 0x10F) 0x4B833022)
      (fun t => firsts t 1 4 == [0x7FFE, 0x7FFF, 0x7FFF, 0x1000] && t.vsat == 6) = true := by
  decide

theorem test_T157_add :
    raised (run (scalar 0x7FFFFFFF 1) 0x00851020) = some (.integerOverflow, 0x400, false) := by
  decide

theorem test_T159_addi :
    raised (run (scalar 0x80000000 0) 0x2082FFFF) = some (.integerOverflow, 0x400, false) := by
  decide

theorem test_T160_addiu : completes (run (scalar 0 0) 0x2482FFFF) (fun t => t.x 2 == 0xFFFFFFFF) = true := by
  decide

theorem test_T162_subu : completes (run (scalar 0 1) 0x00051023) (fun t => t.x 2 == 0xFFFFFFFF) = true := by
  decide

theorem test_T163_andi :
    completes (run (scalar 0x12345678 0) 0x3082FFFF) (fun t => t.x 2 == 0x5678) = true := by
  decide

theorem test_T168_slt : completes (run (scalar 0xFFFFFFFF 1) 0x0085102A) (fun t => t.x 2 == 1) = true := by
  decide

theorem test_T168_sltu : completes (run (scalar 0xFFFFFFFF 1) 0x0085182B) (fun t => t.x 3 == 0) = true := by
  decide

theorem test_T169_sltiu : completes (run (scalar 0xFFFFFFFE 0) 0x2C83FFFF) (fun t => t.x 3 == 1) = true := by
  decide

theorem test_T170_sra :
    completes (run (scalar 0x80000001 0) 0x00042FC3) (fun t => t.x 5 == 0xFFFFFFFF) = true := by
  decide

theorem test_T171_srav :
    completes (run (scalar 0x80000001 33) 0x00A41807) (fun t => t.x 3 == 0xC0000000) = true := by
  decide

theorem test_T172_add_register_0 : completes (run (scalar 1 1) 0x00850020) (fun t => t.x 0 == 0) = true := by
  decide

theorem test_T173_mult :
    completes (run (scalar 0x80000000 0x80000000) 0x00850018)
      (fun t => t.hi == 0x40000000 && t.lo == 0) = true := by
  decide

theorem test_T174_multu :
    completes (run (scalar 0xFFFFFFFF 0xFFFFFFFF) 0x00850019)
      (fun t => t.hi == 0xFFFFFFFE && t.lo == 1) = true := by
  decide

theorem test_T177_div :
    completes (run (scalar 0xFFFFFFF9 2) 0x0085001A)
      (fun t => t.lo == 0xFFFFFFFD && t.hi == 0xFFFFFFFF) = true := by
  decide

theorem test_T178_div :
    completes (run (scalar 7 0xFFFFFFFE) 0x0085001A) (fun t => t.lo == 0xFFFFFFFD && t.hi == 1) = true := by
  decide

theorem test_T180_divu :
    completes (run (scalar 0xFFFFFFF9 2) 0x0085001B) (fun t => t.lo == 0x7FFFFFFC && t.hi == 1) = true := by
  decide

theorem test_T184_sll_must_be_zero : refusal (run (scalar 1 0) 0x00241040) = some .mustBeZeroField := by
  decide

theorem test_T185_lh : completes (run loads 0x84830002) (fun t => t.x 3 == 0xFFFFFF7F) = true := by
  decide

theorem test_T185_lhu : completes (run loads 0x94850002) (fun t => t.x 5 == 0xFF7F) = true := by
  decide

theorem test_T185_lb : completes (run loads 0x80860000) (fun t => t.x 6 == 0xFFFFFF80) = true := by
  decide

theorem test_T187_lw_little :
    completes (run (little loads) 0x8C820000) (fun t => t.x 2 == 0x7FFF0180) = true := by
  decide

theorem test_T189_lw :
    completes (run (loads.setX 4 0x1008) 0x8C82FFFC) (fun t => t.x 2 == 0x12345678) = true := by
  decide

theorem test_T190_lw_misaligned : raised (run loads 0x8C820002) = some (.addressErrorLoad, 0x400, false) := by
  decide

theorem test_T191_sh_misaligned :
    raised (run loads 0xA4820001) = some (.addressErrorStore, 0x400, false) := by
  decide

theorem test_T186_sh :
    completes (run (loads.setX 5 0xA1B2C3D4) 0xA4850004)
      (fun t => bytes t == [0x80, 0x01, 0xFF, 0x7F, 0xC3, 0xD4, 0x56, 0x78]) = true := by
  decide

theorem test_T188_sw_little :
    completes (run (little (loads.setX 5 0xA1B2C3D4)) 0xAC850000)
      (fun t => bytes t == [0xD4, 0xC3, 0xB2, 0xA1, 0x12, 0x34, 0x56, 0x78]) = true := by
  decide

theorem test_T193_beq :
    completes (run (scalar 7 7) 0x10850002) (fun t => t.npc == 0x40C && t.inDelaySlot) = true := by
  decide

theorem test_T198_jal :
    completes (run State.reset 0x0C000104) (fun t => t.npc == 0x410 && t.x 31 == 0x408) = true := by
  decide

theorem test_T199_branch_in_delay_slot :
    refusal (run { State.reset with inDelaySlot := true } 0x10000001) = some .branchInDelaySlot := by
  decide

theorem test_T202_teq : raised (run (scalar 3 3) 0x00850034) = some (.trap, 0x400, false) := by
  decide

theorem test_T203_syscall : raised (run State.reset 0x0000000C) = some (.systemCall, 0x400, false) := by
  decide

theorem test_T204_add_in_delay_slot :
    raised (run { scalar 0x40000000 0 with inDelaySlot := true, pc := 0x404 } 0x00841020)
      = some (.integerOverflow, 0x400, true) := by
  decide

theorem test_T205_cop1 : raised (run State.reset 0x46020840) = some (.coprocessorUnusable, 0x400, false) := by
  decide

theorem test_T207_cop0 : refusal (run State.reset 0x40026000) = some .coprocessor0 := by
  decide

theorem test_T211_unassigned :
    raised (run State.reset 0x7C000000) = some (.reservedInstruction, 0x400, false) := by
  decide

theorem test_T212_lwc2 : raised (run State.reset 0xC8810000) = some (.reservedInstruction, 0x400, false) := by
  decide

theorem test_T208_ll :
    completes (run loads 0xC0820000)
      (fun t => t.x 2 == 0x8001FF7F && t.llBit && t.llAddr == 0x1000) = true := by
  decide

theorem test_T208_sc :
    completes (run { loads.setX 3 0x55 with llBit := true, llAddr := 0x1000 } 0xE0830000)
      (fun t => t.x 3 == 1 && !t.llBit && bytes t == [0, 0, 0, 0x55, 0x12, 0x34, 0x56, 0x78]) = true := by
  decide


/-! ## Fixed-point functions -/

/-- The T0-only fields, all zero. -/
def noExtra : T0Extra := ⟨0, false, false, false, false, false, false, 0, false, false, false, 0⟩

/-- The readings that the pseudocode of Appendix A takes of its open points. -/
def reading : T0Readings where
  shramBits := 5
  adderWrap := BitVec.ofInt 33
  logical33 := true
  mulSvSwapped := false
  mulOperands := fun _ a b => (a, b)
  roundAmount := fun varying _ => varying

/-- Architected fields: `sham`, `clipam`, `shlnr`, `shrnr`, `shrst`. -/
def fields (sham : Nat) (clipam : BitVec 2) (shlnr shrnr shrst : Bool) : FxFields :=
  ⟨sham, clipam, shlnr, shrnr, shrst⟩

/-- Rows of the table of R285. -/
theorem test_R285_rows :
    fxArch .add 0x002 0 6 = ⟨true, 2, false⟩ ∧ fxArch .add 0x602 0 0xFFFFFFFE = ⟨true, 0xFFFFFFFF, false⟩ ∧
    fxArch .add 0x402 0 2 = ⟨true, 1, false⟩ ∧ fxArch .add 0xA02 0 0xFFFFFFFA = ⟨true, 0xFFFFFFFF, false⟩ ∧
    fxArch .sub 0 0 0x80000000 = ⟨true, 0x7FFFFFFF, true⟩ ∧
    fxArch .add 0x080 0x7F 0 = ⟨true, 0x7F, false⟩ ∧ fxArch .add 0x080 0x80 0 = ⟨true, 0x7F, true⟩ := by
  decide

/-- T141 to T146: logic unit, variable shifts. -/
theorem test_T141_to_T146 :
    t0FxAddSub reading false (fields 0 0 false false false)
      { noExtra with lures := true, noclip := true, lufunc := 0b1100 } 0x0F0F00FF 0x00FF0F0F =
        ⟨true, 0x0FF00FF0, false⟩ ∧
    t0FxAddSub reading false (fields 0 0 true true false) { noExtra with shlv := true, noclip := true } 3 0x24 =
      ⟨true, 0x30, false⟩ ∧
    t0FxAddSub reading false (fields 0 0 true true false) { noExtra with shrv := true, noclip := true }
      0x80000000 4 = ⟨true, 0xF8000000, false⟩ ∧
    t0FxAddSub reading false (fields 0 0 true true false)
      { noExtra with shrv := true, noclip := true, shrl := true, au := true } 0x80000000 4 =
        ⟨true, 0x08000000, false⟩ ∧
    t0FxAddSub reading false (fields 0 0 true false false) { noExtra with shrv := true, noclip := true } 7 0x20 =
      ⟨true, 6, false⟩ := by
  decide

/-- T147 to T153: the clipper without clipping, the conditional write, `clipam = 11` on T0. -/
theorem test_T147_to_T153 :
    t0FxAddSub reading true (fields 0 0b10 true true false) { noExtra with noclip := true } 0x80000000 1 =
      ⟨true, 1, true⟩ ∧
    t0FxAddSub reading true (fields 0 0b10 true true false) { noExtra with noclip := true, au := true, bu := true }
      0x80000000 1 = ⟨true, 0, false⟩ ∧
    t0FxAddSub reading true (fields 0 0b11 false false false) { noExtra with noclip := true } 0x12345678 0x12345678 =
      ⟨true, 1, true⟩ ∧
    t0FxAddSub reading false (fields 0 0b01 true true false) { noExtra with noclip := true } 0x7FFFFFFF 1 =
      ⟨true, 0x80000000, true⟩ ∧
    t0FxAddSub reading false (fields 0 0 true false false)
      { noExtra with lures := true, shrv := true, noclip := true, wcond := 0b110 } 1 0x55 =
        ⟨false, 0x55, false⟩ ∧
    t0FxAddSub reading false (fields 0 0b11 false false false) noExtra 0x10000 0 = ⟨true, 0x7FFF, true⟩ := by
  decide

/-- T154 to T156: the multiply pipeline. -/
theorem test_T154_to_T156 :
    t0FxMul reading (fields 0 0 false false false) { noExtra with au := true, bu := true, noclip := true } 0xFFFF
      0xFFFF = ⟨true, 0xFFFE0001, false⟩ ∧
    t0FxMul reading (fields 0 0 false false false) { noExtra with au := true, bu := true } 0xFFFF 0xFFFF =
      ⟨true, 0x7FFFFFFF, true⟩ ∧
    t0FxMul reading (fields 0 0 false false false) { noExtra with au := true } 0xFFFF 0xFFFF =
      ⟨true, 0xFFFF0001, false⟩ := by
  decide

/-! ## Witnesses: concrete states and operands that meet the hypotheses of the statements -/

/-- Whether an outcome is a next state with a property. -/
def answers (r : Result) (p : State → Bool) : Bool :=
  match r with
  | .next t => p t
  | .fault _ => false
  | .refused _ => false

theorem answers_exists (r : Result) (p : State → Bool) (h : answers r p = true) :
    ∃ t, r = .next t ∧ p t = true := by
  cases r with
  | next t => exact ⟨t, rfl, h⟩
  | fault u => exact absurd h (by simp [answers])
  | refused u => exact absurd h (by simp [answers])

/-- The reset state with a word placed at `pc`. -/
def placed (w : Word) : State := State.reset.withFetchWord 32 w.toNat

/-- A running state fetches a word. -/
def fetchesB (s : State) (w : Word) : Bool :=
  s.trap.isNone && s.pc.toNat % 4 == 0 && s.fetchable && s.fetchedWord == w

theorem fetches_of_fetchesB (s : State) (w : Word) (h : fetchesB s w = true) : Fetches s w := by
  simp only [fetchesB, Bool.and_eq_true, Option.isNone_iff_eq_none, beq_iff_eq] at h
  exact ⟨h.1.1.1, h.1.1.2, h.1.2, h.2⟩

theorem witness_EncodeOfDecode : decodeWord 0x4A828061 = .instr (.addVV 3 1 2) := by
  decide

theorem witness_ReservedVectorWordsTrap_fetched_1 :
    ([0x4BFFFFFF, 0x4A400000, 0x4A6003E0, 0x4A400400] : List Word).all
      (fun w => fetchesB (placed w) w) = true := by
  decide

theorem witness_ReservedVectorWordsTrap_fetched_2 :
    ([0x4A801000, 0x4A838422, 0x4AA03400, 0x4B000400] : List Word).all
      (fun w => fetchesB (placed w) w) = true := by
  decide

theorem witness_ReservedVectorWordsTrap_fetched_3 :
    ([0x4A0003E0, 0x4A200760, 0x4A802020, 0x484007FF] : List Word).all
      (fun w => fetchesB (placed w) w) = true := by
  decide

/-- The words above, one for each class of the statement. -/
theorem witness_ReservedVectorWordsTrap :
    ([0x4BFFFFFF, 0x4A400000, 0x4A6003E0, 0x4A400400, 0x4A801000, 0x4A838422, 0x4AA03400, 0x4B000400,
        0x4A0003E0, 0x4A200760, 0x4A802020, 0x484007FF] : List Word).all
      (fun w => w.extractLsb' 26 6 == 0b010010#6) = true ∧
    (0x4BFFFFFF : Word).extractLsb' 21 5 ∈ [0b10110#5, 0b10111#5, 0b11110#5, 0b11111#5] ∧
    (0x4A400000 : Word).extractLsb' 21 5 = 0b10010#5 ∧ (0x4A400000 : Word).extractLsb' 5 5 = 0 ∧
    (0x4A6003E0 : Word).extractLsb' 21 5 = 0b10011#5 ∧ (0x4A6003E0 : Word).extractLsb' 5 5 = 0b11111#5 ∧
    (0x4A400400 : Word).extractLsb' 21 5 = 0b10010#5 ∧ (0x4A400400 : Word).extractLsb' 10 1 = 1 ∧
    (0x4A801000 : Word).extractLsb' 21 5 = 0b10100#5 ∧ (0x4A801000 : Word).extractLsb' 11 5 = 0b00010#5 ∧
    (0x4A838422 : Word).extractLsb' 21 5 = 0b10100#5 ∧ (0x4A838422 : Word).extractLsb' 10 1 = 1 ∧
    (0x4AA03400 : Word).extractLsb' 21 5 = 0b10101#5 ∧ (0x4AA03400 : Word).extractLsb' 10 1 = 1 ∧
    (0x4AA03400 : Word).extractLsb' 11 5 = 0b00110#5 ∧
    (0x4B000400 : Word).extractLsb' 21 5 = 0b11000#5 ∧ (0x4B000400 : Word).extractLsb' 10 1 = 1 ∧
    (0x4A0003E0 : Word).extractLsb' 21 5 = 0b10000#5 ∧ (0x4A0003E0 : Word).extractLsb' 5 5 = 0b11111#5 ∧
    (0x4A200760 : Word).extractLsb' 21 5 = 0b10001#5 ∧ (0x4A200760 : Word).extractLsb' 10 1 = 1 ∧
    (0x4A802020 : Word).extractLsb' 21 5 = 0b10100#5 ∧ (0x4A802020 : Word).extractLsb' 11 5 = 0b00100#5 ∧
    (0x4A802020 : Word).extractLsb' 5 5 = 0b00001#5 ∧
    (0x484007FF : Word).extractLsb' 21 5 = 0b00010#5 ∧ (0x484007FF : Word).extractLsb' 0 11 ≠ 0 := by
  constructor <;> decide

theorem witness_OtherWordsStop_fetched_1 :
    ([0xC8810000, 0xFBFFFFFF, 0x46020840, 0xF7FFFFFF] : List Word).all
      (fun w => fetchesB (placed w) w) = true := by
  decide

theorem witness_OtherWordsStop_fetched_2 :
    ([0x4C000000, 0xFFFFFFFF, 0x60000000, 0xF3FFFFFF] : List Word).all
      (fun w => fetchesB (placed w) w) = true := by
  decide

theorem witness_OtherWordsStop_fetched_3 :
    ([0x48000000, 0x40026000] : List Word).all (fun w => fetchesB (placed w) w) = true := by
  decide

theorem witness_OtherWordsStop_fetched_4 :
    ([0x00000001, 0x0000003F, 0x04040000, 0x041F0000] : List Word).all
      (fun w => fetchesB (placed w) w) = true := by
  decide

theorem witness_OtherWordsStop_fetched_5 :
    ([0x00200000, 0x00000044, 0x000007EB, 0x00010008, 0x00000053] : List Word).all
      (fun w => fetchesB (placed w) w) = true := by
  decide

theorem witness_OtherWordsStop_fetched_6 :
    ([0x00000049, 0x0020000F, 0x00200012, 0x00000818, 0x0000005B] : List Word).all
      (fun w => fetchesB (placed w) w) = true := by
  decide

theorem witness_OtherWordsStop_fetched_7 :
    ([0x3C200000, 0x18010000, 0x5C1F0000] : List Word).all (fun w => fetchesB (placed w) w) = true := by
  decide

/-- A state with floating point that fetches a coprocessor-1 word. -/
theorem witness_OtherWordsStop_hasFpu :
    fetchesB { placed 0x46020840 with cfg := { Config.default with hasFpu := true } } 0x46020840 = true := by
  decide

/-- Opcode, `rs`, `rt`, `rd`, `sa`, `funct` of a word. -/
def fieldNumbers (w : Word) : List Nat :=
  [(w.extractLsb' 26 6).toNat, (w.extractLsb' 21 5).toNat, (w.extractLsb' 16 5).toNat,
    (w.extractLsb' 11 5).toNat, (w.extractLsb' 6 5).toNat, (w.extractLsb' 0 6).toNat]

/-- The words of `fetched_4` to `fetched_7`: the two ends of the unassigned SPECIAL and REGIMM codes, and for each
class of must-be-zero words one with a single bit too many or the field at its largest. -/
theorem witness_OtherWordsStop_fields :
    ([0x00000001, 0x0000003F, 0x04040000, 0x041F0000, 0x00200000, 0x00000044, 0x000007EB, 0x00010008,
        0x00000053, 0x00000049, 0x0020000F, 0x00200012, 0x00000818, 0x0000005B, 0x3C200000, 0x18010000,
        0x5C1F0000] : List Word).map fieldNumbers =
      [[0, 0, 0, 0, 0, 1], [0, 0, 0, 0, 0, 63], [1, 0, 4, 0, 0, 0], [1, 0, 31, 0, 0, 0], [0, 1, 0, 0, 0, 0],
        [0, 0, 0, 0, 1, 4], [0, 0, 0, 0, 31, 43], [0, 0, 1, 0, 0, 8], [0, 0, 0, 0, 1, 19], [0, 0, 0, 0, 1, 9],
        [0, 1, 0, 0, 0, 15], [0, 1, 0, 0, 0, 18], [0, 0, 0, 1, 0, 24], [0, 0, 0, 0, 1, 27],
        [15, 1, 0, 0, 0, 0], [6, 0, 1, 0, 0, 0], [23, 0, 31, 0, 0, 0]] := by
  decide

/-- The words of `fetched_1` to `fetched_3`, at the two ends of each class of the statement. -/
theorem witness_OtherWordsStop :
    State.reset.cfg.hasFpu = false ∧
    (0x48000000 : Word).extractLsb' 26 6 = 0b010010#6 ∧ (0x48000000 : Word).extractLsb' 25 1 = 0 ∧
    (0xC8810000 : Word).extractLsb' 26 6 = 0b110010#6 ∧ (0xFBFFFFFF : Word).extractLsb' 26 6 = 0b111110#6 ∧
    (0x46020840 : Word).extractLsb' 26 6 = 0b010001#6 ∧ (0xF7FFFFFF : Word).extractLsb' 26 6 = 0b111101#6 ∧
    (0x4C000000 : Word).extractLsb' 26 6 = 0b010011#6 ∧ (0xFFFFFFFF : Word).extractLsb' 26 6 = 0b111111#6 ∧
    (0x60000000 : Word).extractLsb' 26 6 = 0b011000#6 ∧ (0xF3FFFFFF : Word).extractLsb' 26 6 = 0b111100#6 ∧
    (0x40026000 : Word).extractLsb' 26 6 = 0b010000#6 := by
  decide

theorem witness_StepRunsDecoded :
    Fetches (placed (encode (.addVV 3 1 2))) (encode (.addVV 3 1 2)) :=
  fetches_of_fetchesB _ _ (by decide)

theorem witness_StepWithoutInstruction :
    ({ State.reset with trap := some ⟨.trap, 0, false, .none⟩ } : State).trap = some ⟨.trap, 0, false, .none⟩ ∧
    (({ State.reset with pc := 0x402 } : State).trap = none ∧
      ({ State.reset with pc := 0x402 } : State).pc.toNat % 4 ≠ 0) ∧
    (State.reset.trap = none ∧ State.reset.pc.toNat % 4 = 0 ∧ State.reset.fetchable = false) := by
  decide

theorem witness_PlacedInstructionIsFetched :
    State.reset.mem.wf = true ∧ State.reset.trap = none ∧ State.reset.pc.toNat % 4 = 0 ∧
      ∀ a ∈ byteAddrs State.reset.pc 4, State.reset.executable a = true := by
  decide

/-- The reset state with a word placed meets the invariant when the word is an `add.vv`. -/
theorem placed_inv : (placed 0x4A828061).Inv where
  memory := by decide
  sequential := by decide
  hiLoCount := by decide
  ordered := by decide
  unordered := by decide
  trapped := fun _ h => nomatch h

theorem witness_StepKeepsInvariant :
    (placed 0x4A828061).Inv ∧ ∃ t, step (placed 0x4A828061) = .next t ∧ (t.pc == 0x404) = true :=
  ⟨placed_inv, answers_exists _ _ (by decide)⟩

theorem witness_OnlyStoresChangeMemory :
    ∃ t, run (loads.setX 5 7) 0xAC850000 = .next t ∧ (t.mem.read 0x1003 != loads.mem.read 0x1003) = true :=
  answers_exists _ _ (by decide)

/-- A state whose flag registers are all ones, with overflowing and saturating operands. -/
def flagged : State := { ints with vcond := 0xFFFFFFFF, vovf := 0xFFFFFFFF, vsat := 0xFFFFFFFF }

theorem witness_FlagRegistersChangeOnlyAsStated :
    (∃ t, exec (.ctvu 5 2) ints = .next t ∧ (t.vlr != ints.vlr) = true) ∧
    (∃ t, exec (.fltVV 2 3) flagged = .next t ∧ (t.vcond != flagged.vcond) = true) ∧
    (∃ t, exec (.ctvu 5 8) flagged = .next t ∧
      (flagged.vovf.getLsbD 31 && !t.vovf.getLsbD 31) = true) ∧
    (∃ t, exec (.ctvu 5 12) flagged = .next t ∧
      (flagged.vsat.getLsbD 31 && !t.vsat.getLsbD 31) = true) ∧
    (∃ t, exec (.addVV 1 2 3) ints = .next t ∧ (t.vovf != ints.vovf) = true) ∧
    (∃ t, exec (.fxaddVV 1 2 3 0) ints = .next t ∧ (t.vsat != ints.vsat) = true) :=
  ⟨answers_exists _ _ (by decide), answers_exists _ _ (by decide), answers_exists _ _ (by decide),
    answers_exists _ _ (by decide), answers_exists _ _ (by decide), answers_exists _ _ (by decide)⟩

theorem witness_UnusableVectorUnitIsUntouched :
    ({ placed 0x00851020 with cu2 := false } : State).cu2 = false ∧
      ∃ t, step { placed 0x00851020 with cu2 := false } = .next t ∧ (t.pc == 0x404) = true :=
  ⟨by decide, answers_exists _ _ (by decide)⟩

theorem witness_ElementsFromVlrAreKept :
    Instr.runsOverVlr (.addVV 1 2 3) = true ∧ ints.vlr.toNat ≤ 4 ∧
      ∃ t, exec (.addVV 1 2 3) ints = .next t ∧ (t.v 1 3 != ints.v 1 3) = true :=
  ⟨by decide, by decide, answers_exists _ _ (by decide)⟩

theorem witness_ExceptionsArePrecise :
    ints.trap = none ∧
    (∃ t, exec (.add 2 4 5) (scalar 0x7FFFFFFF 1) = .next t ∧ t.trap.isSome = true) ∧
    (∃ t, exec (.lwxV 1 4 2) (elems loads 2 [0, 1]) = .next t ∧
      (t.trap.map fun r => r.cause) == some .vectorAddress) ∧
    (∃ t, exec (.swxV 1 4 2) (elems loads 2 [0, 1]) = .next t ∧
      (t.trap.map fun r => r.cause) == some .vectorAddress) ∧
    (VectorAccess.leavesOpen ⟨.write, 1, .indexed 4 2, .word⟩ (elems loads 2 [0, 1])).bytes =
      [0x1000, 0x1001, 0x1002, 0x1003] ∧
    (∃ t, exec (.swaiV 1 4 5) (loads.setX 4 0x1001) = .next t ∧
      (t.trap.map fun r => r.cause) == some .vectorAddress) :=
  ⟨by decide, answers_exists _ _ (by decide), answers_exists _ _ (by decide),
    answers_exists _ _ (by decide), by decide, answers_exists _ _ (by decide)⟩

/-- `beq $0, $0, +1`, and `add $2, $4, $4` in its delay slot, which overflows (T204). -/
def slotState : State :=
  { scalar 0x40000000 0 with
    mem := [(0x400, 0x10), (0x403, 0x01), (0x405, 0x84), (0x406, 0x10), (0x407, 0x20)]
    text := [⟨0x400, 8⟩] }

theorem slotState_inv : slotState.Inv where
  memory := by decide
  sequential := by decide
  hiLoCount := by decide
  ordered := by decide
  unordered := by decide
  trapped := fun _ h => nomatch h

theorem witness_DelaySlotTrapNamesBranch :
    slotState.Inv ∧ Fetches slotState (encode (.beq 0 0 1)) ∧ Instr.isBranch (.beq 0 0 1) = true ∧
      ∃ t, step slotState = .next t ∧
        (t.inDelaySlot && answers (step t) fun u => u.trap.isSome) = true :=
  ⟨slotState_inv, fetches_of_fetchesB _ _ (by decide), by decide, answers_exists _ _ (by decide)⟩

/-- For `ScalarComputeFrame`, `ScalarMemoryFrame`, `VectorRegisterFrame` and `VectorMemoryFrame`. -/
theorem witness_Frames :
    (Instr.isVu (.mult 4 5) = false ∧ Instr.isMemory (.mult 4 5) = false ∧
      ∃ t, exec (.mult 4 5) (scalar 2 3) = .next t ∧ (t.lo == 6) = true) ∧
    (Instr.isVu (.sw 5 0 4) = false ∧ Instr.isMemory (.sw 5 0 4) = true ∧
      ∃ t, exec (.sw 5 0 4) loads = .next t ∧ (t.mem.read 0x1000 == 0) = true) ∧
    (Instr.isVu (.addVV 1 2 3) = true ∧ Instr.isMemory (.addVV 1 2 3) = false ∧
      ∃ t, exec (.addVV 1 2 3) ints = .next t ∧ (t.vovf == 3) = true) ∧
    (Instr.isVu (.swaiV 1 4 5) = true ∧ Instr.isMemory (.swaiV 1 4 5) = true ∧
      ∃ t, exec (.swaiV 1 4 5) loads = .next t ∧ (t.mem.read 0x1007 == 0) = true) :=
  ⟨⟨by decide, by decide, answers_exists _ _ (by decide)⟩,
    ⟨by decide, by decide, answers_exists _ _ (by decide)⟩,
    ⟨by decide, by decide, answers_exists _ _ (by decide)⟩,
    ⟨by decide, by decide, answers_exists _ _ (by decide)⟩⟩

/-- Sums and differences at the two ends of the signed range, inside and outside. -/
theorem witness_OverflowingResults :
    (-(2 ^ 31 : Int) ≤ ((scalar 0x7FFFFFFE 1).x 4).toInt + ((scalar 0x7FFFFFFE 1).x 5).toInt ∧
      ((scalar 0x7FFFFFFE 1).x 4).toInt + ((scalar 0x7FFFFFFE 1).x 5).toInt < 2 ^ 31) ∧
    ¬ (((scalar 0x7FFFFFFF 1).x 4).toInt + ((scalar 0x7FFFFFFF 1).x 5).toInt < 2 ^ 31) ∧
    (-(2 ^ 31 : Int) ≤ ((scalar 0x80000001 1).x 4).toInt - ((scalar 0x80000001 1).x 5).toInt) ∧
    ¬ (-(2 ^ 31 : Int) ≤ ((scalar 0x80000000 1).x 4).toInt - ((scalar 0x80000000 1).x 5).toInt) ∧
    ¬ (-(2 ^ 31 : Int) ≤ ((scalar 0x80000000 1).x 4).toInt + (0xFFFF#16).toInt) := by
  decide

theorem witness_MultiplyDivideResults :
    2 ≤ (scalar 7 2).sinceHiLo ∧ (scalar 7 2).x 5 ≠ 0 ∧
      2 ≤ (scalar 0x80000000 0xFFFFFFFF).sinceHiLo ∧ (scalar 0x80000000 0xFFFFFFFF).x 5 ≠ 0 := by
  decide

theorem witness_DivideByZeroGoesOn : 2 ≤ (scalar 7 0).sinceHiLo ∧ (scalar 7 0).x 5 = 0 := by
  decide

theorem witness_HiLoMoves : 2 ≤ State.reset.sinceHiLo := by
  decide

theorem witness_HiLoSpacing :
    (Instr.writesHiLo (.mult 4 5) = true ∧ ({ State.reset with sinceHiLo := 1 } : State).sinceHiLo < 2) ∧
    (∃ t, exec (.mflo 2) State.reset = .next t ∧ (t.trap.isNone && t.sinceHiLo == 0) = true) ∧
    (∃ t, exec (.addu 2 4 5) { State.reset with sinceHiLo := 0 } = .next t ∧
      (t.trap.isNone && t.sinceHiLo == 1) = true) :=
  ⟨by decide, answers_exists _ _ (by decide), answers_exists _ _ (by decide)⟩

/-- Loads at the last item of the address space of each size are aligned and granted. -/
theorem witness_ScalarLoads :
    ((0xFFFFFFFF : Word).toNat % 1 = 0 ∧
      Grants State.reset ⟨.scalar, .read, byteAddrs 0xFFFFFFFF 1⟩) ∧
    ((0xFFFFFFFE : Word).toNat % 2 = 0 ∧
      Grants State.reset ⟨.scalar, .read, byteAddrs 0xFFFFFFFE 2⟩) ∧
    ((0xFFFFFFFC : Word).toNat % 4 = 0 ∧
      Grants State.reset ⟨.scalar, .read, byteAddrs 0xFFFFFFFC 4⟩) ∧
    trunc32 ((State.reset.x 0).toInt + (0xFFFF#16).toInt) = 0xFFFFFFFF :=
  ⟨⟨by decide, by decide, by decide, by decide⟩, ⟨by decide, by decide, by decide, by decide⟩,
    ⟨by decide, by decide, by decide, by decide⟩, by decide⟩

theorem witness_ScalarStores :
    State.reset.mem.wf = true ∧
    Grants State.reset ⟨.scalar, .write, byteAddrs 0xFFFFFFFF 1⟩ ∧
    Grants State.reset ⟨.scalar, .write, byteAddrs 0xFFFFFFFE 2⟩ ∧
    Grants State.reset ⟨.scalar, .write, byteAddrs 0xFFFFFFFC 4⟩ :=
  ⟨by decide, ⟨by decide, by decide, by decide⟩, ⟨by decide, by decide, by decide⟩,
    ⟨by decide, by decide, by decide⟩⟩

theorem witness_MisalignedScalarAccessTraps :
    (trunc32 ((loads.x 4).toInt + (1 : BitVec 16).toInt)).toNat % 2 ≠ 0 ∧
    (trunc32 ((loads.x 4).toInt + (2 : BitVec 16).toInt)).toNat % 4 ≠ 0 := by
  decide

/-- A partial access of one byte and one of four, in both byte orders. -/
theorem witness_PartialWordAccesses :
    loads.mem.wf = true ∧ (5 : Reg) ≠ 0 ∧
    Grants loads ⟨.scalar, .read, [0x1003]⟩ ∧ Grants loads ⟨.scalar, .write, [0x1003, 0x1002, 0x1001, 0x1000]⟩ ∧
    Grants (little loads) ⟨.scalar, .read, [0x1000]⟩ ∧
    Grants (little loads) ⟨.scalar, .write, [0x1000, 0x1001, 0x1002, 0x1003]⟩ :=
  ⟨by decide, by decide, ⟨by decide, by decide, by decide⟩, ⟨by decide, by decide, by decide⟩,
    ⟨by decide, by decide, by decide⟩, ⟨by decide, by decide, by decide⟩⟩

/-- Both byte orders, and the address `0xFFFFFFFE`, whose word runs over the top of memory. -/
theorem witness_UnalignedLoadPair :
    (2 : Reg) ≠ 0 ∧ (2 : Reg) ≠ 4 ∧ (4 : BitVec 16).toInt = (1 : BitVec 16).toInt + 3 ∧
    (∃ t, exec (.lwl 2 1 4) loads = .next t ∧
      (answers (exec (.lwr 2 4 4) t) fun u => u.x 2 == 0x01FF7F12) = true) ∧
    (∃ t, exec (.lwl 2 4 4) (little loads) = .next t ∧
      (answers (exec (.lwr 2 1 4) t) fun u => u.x 2 == 0x127FFF01) = true) ∧
    (1 : BitVec 16).toInt = (0xFFFE : BitVec 16).toInt + 3 ∧
    (∃ t, exec (.lwl 2 0xFFFE 0) { loads with mem := [(0, 0x12), (0xFFFFFFFF, 0x34)] } = .next t ∧
      (answers (exec (.lwr 2 1 0) t) fun u => u.x 2 == 0x00341200) = true) :=
  ⟨by decide, by decide, by decide, answers_exists _ _ (by decide), answers_exists _ _ (by decide),
    by decide, answers_exists _ _ (by decide)⟩

/-- A state with the word at `0x1000` linked. -/
def linked : State := { loads with llBit := true, llAddr := 0x1000 }

theorem witness_LoadLinkedStoreConditional :
    (trunc32 ((linked.x 4).toInt + (0 : BitVec 16).toInt)).toNat % 4 = 0 ∧
    Grants linked ⟨.scalar, .read, byteAddrs 0x1000 4⟩ ∧
    (linked.mem.wf = true ∧ linked.llBit = true ∧
      linked.llAddr = trunc32 ((linked.x 4).toInt + (0 : BitVec 16).toInt) ∧
      Grants linked ⟨.scalar, .write, byteAddrs 0x1000 4⟩) ∧
    loads.llBit = false ∧
    linked.llAddr ≠ trunc32 ((linked.x 4).toInt + (4 : BitVec 16).toInt) :=
  ⟨by decide, ⟨by decide, by decide, by decide⟩,
    ⟨by decide, by decide, by decide, ⟨by decide, by decide, by decide⟩⟩, by decide, by decide⟩

/-- A scalar store after which a scalar load of the same word runs, and a vector load of it is refused. -/
def ordered : State := { loads with unsynced := [⟨.scalar, .write, [0x1000, 0x1001, 0x1002, 0x1003]⟩] }

theorem witness_OrderingDiscipline :
    Instr.memoryAccess (.lw 2 0 4) ordered = some ⟨.scalar, .read, [0x1000, 0x1001, 0x1002, 0x1003]⟩ ∧
    ordered.trap = none ∧ ordered.cfg.syncRequired = true ∧
    (∃ t, exec (.lw 2 0 4) ordered = .next t ∧ t.trap.isNone = true) ∧
    refusal (exec (.lwaiV 1 4 5) ordered) = some .unsynchronisedConflict ∧
    (∃ t, exec (.lwaiV 1 4 5) { ordered with cfg := { ordered.cfg with syncRequired := false } } = .next t ∧
      t.trap.isNone = true) :=
  ⟨by decide, by decide, by decide, answers_exists _ _ (by decide), by decide,
    answers_exists _ _ (by decide)⟩

/-- A state in which an access to the word at `0x1000` conflicts with an earlier vector store. -/
def ungranted : State := { loads with unsynced := [⟨.vector, .write, [0x1003]⟩] }

/-- A state in which the last byte of the word at `0x1000` is program text. -/
def textState : State := { loads with text := [⟨0x1003, 1⟩] }

/-- A state whose launch memory ends inside the word at `0x1000`. -/
def shortMap : State := { loads with map := [⟨0, 0x1003, true, true, true⟩] }

/-- A word at `0x1000` in each of the three states. -/
theorem witness_UngrantedAccessStops :
    (trunc32 ((loads.x 4).toInt + (0 : BitVec 16).toInt)).toNat % 4 = 0 ∧
    ungranted.unsyncedConflict ⟨.scalar, .read, byteAddrs 0x1000 4⟩ = true ∧
    ungranted.unsyncedConflict ⟨.scalar, .write, byteAddrs 0x1000 4⟩ = true ∧
    textState.unsyncedConflict ⟨.scalar, .write, byteAddrs 0x1000 4⟩ = false ∧
    (∃ b ∈ byteAddrs 0x1000 4, textState.inText b = true) ∧
    shortMap.unsyncedConflict ⟨.scalar, .write, byteAddrs 0x1000 4⟩ = false ∧
    (∀ b ∈ byteAddrs 0x1000 4, shortMap.inText b = false) ∧
    (∃ b ∈ byteAddrs 0x1000 4, shortMap.mapped .read b = false) ∧
    (∃ b ∈ byteAddrs 0x1000 4, shortMap.mapped .write b = false) := by
  decide

/-- The link that `sc` needs, and a partial word access of the last byte of a word. -/
theorem witness_UngrantedAccessStops_scalar :
    ({ ungranted with llBit := true, llAddr := 0x1000 } : State).llBit = true ∧
    ({ ungranted with llBit := true, llAddr := 0x1000 } : State).llAddr =
      trunc32 ((loads.x 4).toInt + (0 : BitVec 16).toInt) ∧
    ungranted.unsyncedConflict ⟨.scalar, .read, [0x1003]⟩ = true ∧
    textState.unsyncedConflict ⟨.scalar, .write, [0x1003]⟩ = false ∧ textState.inText 0x1003 = true ∧
    shortMap.unsyncedConflict ⟨.scalar, .read, [0x1003]⟩ = false ∧ shortMap.mapped .read 0x1003 = false := by
  decide

theorem witness_UngrantedAccessStops_vector :
    Instr.vectorAccess (.swaiV 1 4 5) = some ⟨.write, 1, .unit 4 5, .word⟩ ∧
    VectorReady (.swaiV 1 4 5) ungranted ∧ (VecMode.unit 4 5).sameRegister = false ∧
    (∀ k, k < ungranted.vlr.toNat → (ungranted.elementAddr (.unit 4 5) .word k).toNat % 4 = 0) ∧
    ungranted.unsyncedConflict ⟨.vector, .write, ungranted.elementBytes (.unit 4 5) .word 2⟩ = true ∧
    textState.unsyncedConflict ⟨.vector, .write, textState.elementBytes (.unit 4 5) .word 2⟩ = false ∧
    (∃ b ∈ textState.elementBytes (.unit 4 5) .word 2, textState.inText b = true) ∧
    (∃ b ∈ shortMap.elementBytes (.unit 4 5) .word 2, shortMap.mapped .write b = false) :=
  ⟨by decide, ⟨by decide, by decide, by decide⟩, by decide, by decide, by decide, by decide, by decide,
    by decide⟩

theorem witness_ConditionalBranches : State.reset.inDelaySlot = false := by
  decide

theorem witness_LinksAndJumps : State.reset.inDelaySlot = false ∧ (4 : Reg) ≠ 31 ∧ (31 : Reg) ≠ 25 := by
  decide

theorem witness_ForbiddenBranchesAreRefused :
    Instr.isBranch (.beq 0 0 1) = true ∧ ({ State.reset with inDelaySlot := true } : State).inDelaySlot = true ∧
    (∀ r, Instr.beq 0 0 1 ≠ .jalr r r) ∧ State.reset.inDelaySlot = false := by
  decide

theorem witness_TrapInstructions :
    ((scalar 3 3).x 4).toInt ≥ ((scalar 3 3).x 5).toInt ∧ ¬ ((scalar 2 3).x 4).toInt ≥ ((scalar 2 3).x 5).toInt ∧
    ¬ ((scalar 3 3).x 4).toInt < ((scalar 3 3).x 5).toInt ∧
    ((scalar 0xFFFFFFFF 0).x 4).toNat ≥ (trunc32 (0xFFFF#16).toInt).toNat := by
  decide

theorem witness_VectorPrologueTraps :
    Instr.isVu (.addVV 1 2 16) = true ∧
    ({ ints with cu2 := false } : State).cu2 = false ∧
    (ints.cu2 = true ∧ ∃ j ∈ Instr.vectorRegisters (.addVV 1 2 16), ints.cfg.nvreg ≤ j.toNat) ∧
    ((∀ j ∈ Instr.vectorRegisters (.addVV 1 2 15), j.toNat < ints.cfg.nvreg) ∧
      Instr.runsOverVlr (.addVV 1 2 15) = true ∧ 32 < ({ ints with vlr := 33 } : State).vlr.toNat) := by
  decide

/-- Each cause of Vector operation at the ends of its range, and `vlr = 0`. -/
theorem witness_VectorOperationCauses :
    ints.trap = none ∧ ints.cu2 = true ∧
    (∀ j ∈ Instr.vectorRegisters (.vextV 1 15 4), j.toNat < ints.cfg.nvreg) ∧
    (Instr.runsOverVlr (.addVV 1 2 3) = true ∧ 32 < ({ ints with vlr := 33 } : State).vlr.toNat) ∧
    (0 < ints.vlr.toNat ∧ 32 < (ints.vlr.toNat + ((ints.setX 4 29).x 4).toNat) % 256 ∧
      32 < (ints.vlr.toNat + ((ints.setX 4 251).x 4).toNat) % 256) ∧
    (32 ≤ ((ints.setX 6 32).x 6).toNat % 256 ∧ 32 ≤ ((ints.setX 6 255).x 6).toNat % 256) ∧
    (∃ t, exec (.vinsS 5 3 6) (ints.setX 6 32) = .next t ∧
      ((t.trap.map fun r => r.cause) == some .vectorOperation) = true) ∧
    (Instr.runsOverVlr (.vextV 1 15 4) = true ∧ ({ ints with vlr := 0 } : State).vlr = 0) :=
  ⟨by decide, by decide, by decide, by decide, by decide, by decide, answers_exists _ _ (by decide),
    by decide⟩

/-- For `ControlRegisterMoves` and `OtherControlRegistersAreRefused`. -/
theorem witness_ControlRegisters :
    State.reset.cu2 = true ∧ (3 : CReg) ∉ [(0 : CReg), 1, 2, 4, 8, 12] ∧
    (31 : CReg) ∉ [(0 : CReg), 1, 2, 4, 8, 12] ∧ (1 : CReg) ∈ [(0 : CReg), 1] := by
  decide

/-- What the prologue asks holds of `vext.v`, and so does each range of the index at its ends: `4 + 28` is
legal, `4 + 29` is not, `32 + 224` wraps, and with `vlr = 0` the index 33 is the first that is refused. -/
theorem witness_ExtractVector :
    VectorReady (.vextV 1 2 4) ints ∧ VectorReady (.vextV 1 2 4) { ints with vlr := 32 } ∧
    (ints.vlr.toNat + ((ints.setX 4 28).x 4).toNat % 256 ≤ 32) ∧
    (0 < ints.vlr.toNat ∧ 32 < (ints.vlr.toNat + ((ints.setX 4 29).x 4).toNat % 256) % 256) ∧
    (32 < 32 + ((ints.setX 4 224).x 4).toNat % 256 ∧ (32 + ((ints.setX 4 224).x 4).toNat % 256) % 256 ≤ 32) ∧
    VectorReady (.vextV 1 2 4) { ints with vlr := 0 } ∧ 32 < ((ints.setX 4 33).x 4).toNat % 256 :=
  ⟨⟨by decide, by decide, by decide⟩, ⟨by decide, by decide, by decide⟩, by decide, by decide, by decide,
    ⟨by decide, by decide, by decide⟩, by decide⟩

theorem witness_InsertAndExtractScalar :
    ints.cu2 = true ∧ (15 : VReg).toNat < ints.cfg.nvreg ∧ ((ints.setX 6 31).x 6).toNat % 256 < 32 ∧
    32 ≤ ((ints.setX 6 32).x 6).toNat % 256 := by
  decide

theorem witness_UnitStrideLoads :
    (4 : Reg) ≠ 5 ∧ VectorReady (.lwaiV 1 4 5) loads ∧ (loads.x 4).toNat % Size.word.bytes = 0 ∧
    Grants loads ⟨.vector, .read, loads.elementBytes (.unit 4 5) .word loads.vlr.toNat⟩ :=
  ⟨by decide, ⟨by decide, by decide, by decide⟩, by decide, ⟨by decide, by decide, by decide⟩⟩

theorem witness_UnitStrideStores :
    loads.mem.wf = true ∧ (4 : Reg) ≠ 5 ∧ VectorReady (.swaiV 1 4 5) loads ∧
    (loads.x 4).toNat % Size.word.bytes = 0 ∧
    Grants loads ⟨.vector, .write, loads.elementBytes (.unit 4 5) .word loads.vlr.toNat⟩ :=
  ⟨by decide, by decide, ⟨by decide, by decide, by decide⟩, by decide, ⟨by decide, by decide, by decide⟩⟩

/-- A state whose indices and stride give aligned words. -/
def gather : State := (elems loads 2 [4, 0]).setX 5 4

theorem witness_IndexedAndStridedLoads :
    VectorReady (.lwxV 1 4 2) gather ∧ VectorReady (.lwstV 1 4 5) gather ∧
    (∀ k, k < gather.vlr.toNat → (trunc32 ((gather.x 4).toInt + (gather.v 2 k).toInt)).toNat % 4 = 0) ∧
    (∀ k, k < gather.vlr.toNat → (trunc32 ((gather.x 4).toInt + (gather.x 5).toInt * k)).toNat % 4 = 0) ∧
    Grants gather ⟨.vector, .read, gather.elementBytes (.indexed 4 2) .word gather.vlr.toNat⟩ ∧
    Grants gather ⟨.vector, .read, gather.elementBytes (.strided 4 5) .word gather.vlr.toNat⟩ :=
  ⟨⟨by decide, by decide, by decide⟩, ⟨by decide, by decide, by decide⟩, by decide, by decide,
    ⟨by decide, by decide, by decide⟩, ⟨by decide, by decide, by decide⟩⟩

theorem witness_IndexedAndStridedStores :
    gather.mem.wf = true ∧ VectorReady (.swxV 1 4 2) gather ∧ VectorReady (.swstV 1 4 5) gather ∧
    Grants gather ⟨.vector, .write, gather.elementBytes (.indexed 4 2) .word gather.vlr.toNat⟩ ∧
    Grants gather ⟨.vector, .write, gather.elementBytes (.strided 4 5) .word gather.vlr.toNat⟩ :=
  ⟨by decide, ⟨by decide, by decide, by decide⟩, ⟨by decide, by decide, by decide⟩,
    ⟨by decide, by decide, by decide⟩, ⟨by decide, by decide, by decide⟩⟩

/-- Misaligned by one and by two, and a misaligned base with `vlr = 0` (T53). -/
theorem witness_VectorAddressTraps :
    loads.vlr ≠ 0 ∧ VectorReady (.lhaiV 1 4 5) (loads.setX 4 0x1001) ∧ (4 : Reg) ≠ 5 ∧
    ((loads.setX 4 0x1001).x 4).toNat % Size.half.bytes ≠ 0 ∧ VectorReady (.lwxV 1 4 2) (elems loads 2 [0, 2]) ∧
    (1 < loads.vlr.toNat ∧
      (trunc32 (((elems loads 2 [0, 2]).x 4).toInt + ((elems loads 2 [0, 2]).v 2 1).toInt)).toNat %
        Size.word.bytes ≠ 0) ∧
    (trunc32 (((loads.setX 5 2).x 4).toInt + ((loads.setX 5 2).x 5).toInt * 1)).toNat % Size.word.bytes ≠ 0 ∧
    VectorReady (.lwaiV 1 4 5) { loads with vlr := 0 } ∧
    refusal (exec (.lwaiV 1 4 5) { loads.setX 4 0x1001 with vlr := 0 }) = some .emptyAccessMisaligned :=
  ⟨by decide, ⟨by decide, by decide, by decide⟩, by decide, by decide, ⟨by decide, by decide, by decide⟩,
    by decide, by decide, ⟨by decide, by decide, by decide⟩, by decide⟩

theorem witness_AutoIncrementSameRegisterIsRefused :
    loads.cu2 = true ∧ (15 : VReg).toNat < loads.cfg.nvreg ∧ ({ loads with vlr := 32 } : State).vlr.toNat ≤ 32 := by
  decide

/-- What the prologue asks holds of an instruction of every vector family that computes: the hypothesis of
`VectorIntegerResults`, `VectorOverflow`, `VectorSetResults`, `VectorFlagResults`, `ConditionalMoves`,
`UnconditionalMoves` and `FixedPointGoesOnUnlessRefused`. -/
theorem witness_VectorReady :
    VectorReady (.sllvVV 1 2 3) ints ∧ VectorReady (.addVS 15 2 5) { ints with vlr := 32 } ∧
    VectorReady (.sltSV 1 5 2) ints ∧ VectorReady (.fltVV 2 3) { ints with vlr := 0 } ∧
    VectorReady (.cmvgezVS 0 2 5) ints ∧ VectorReady (.cmveqzVV 1 0 2) ints ∧
    VectorReady (.fxaddSV 1 5 2 6) ints ∧ VectorReady (.fxmulVV 1 2 3 6) ints :=
  ⟨⟨by decide, by decide, by decide⟩, ⟨by decide, by decide, by decide⟩, ⟨by decide, by decide, by decide⟩, ⟨by decide, by decide, by decide⟩, ⟨by decide, by decide, by decide⟩,
    ⟨by decide, by decide, by decide⟩, ⟨by decide, by decide, by decide⟩, ⟨by decide, by decide, by decide⟩⟩

/-- A state of an implementation that clips to 16 bits with `clipam = 11`. -/
def clips16 : State := { ints.setX 6 0x180 with cfg := { ints.cfg with clipam3 := .clip16 } }

/-- One state for each case of `FixedPointGoesOnUnlessRefused`: T137 and T136 with the run parameters at reset, and
the other values of the parameters. -/
theorem witness_FixedPointGoesOnUnlessRefused :
    refusal (run (ints.setX 6 0x020) 0x4B033022) = some .unusedConfigurationBits ∧
    refusal (run (ints.setX 6 0x180) 0x4B033022) = some .clipAmount3 ∧
    completes (run { ints.setX 6 0x020 with vlr := 0 } 0x4B033022) (fun _ => true) = true ∧
    completes (run clips16 0x4B033022) (fun _ => true) = true ∧
    completes (run { ints.setX 6 0x1A0 with cfg := { ints.cfg with t0CfgBits := .unpredictable } } 0x4B033022)
      (fun t => t.v 1 4 == ints.v 1 4) = true ∧
    (let s : State := { ints.setX 6 0x020 with cfg := { ints.cfg with t0CfgBits := .honoured } }
     VectorReady (.fxaddVV 1 2 3 6) s ∧ s.x 6 &&& 0xFFFFF060 ≠ 0 ∧ s.vlr ≠ 0 ∧ s.cfg.t0CfgBits = .honoured) :=
  ⟨by decide, by decide, by decide, by decide, by decide, ⟨by decide, by decide, by decide⟩, by decide, by decide,
    by decide⟩

theorem witness_FixedPointResults :
    VectorReady (.fxmulVV 1 2 3 6) (ints.setX 6 0xF1F) ∧
    (ints.setX 6 0xF1F).x 6 &&& 0xFFFFF060 = 0 ∧ ((ints.setX 6 0xF1F).x 6).extractLsb' 7 2 ≠ 0b11#2 ∧
    VectorReady (.fxaddVV 1 2 3 6) clips16 ∧ clips16.x 6 &&& 0xFFFFF060 = 0 ∧
    (clips16.x 6).extractLsb' 7 2 = 0b11#2 ∧ clips16.cfg.clipam3 = .clip16 :=
  ⟨⟨by decide, by decide, by decide⟩, by decide, by decide, ⟨by decide, by decide, by decide⟩, by decide,
    by decide, by decide⟩

/-- One configuration word for each combination of the rounding bits `shrst`, `shrnr`, `shlnr`. -/
theorem witness_FixedPointRounding :
    ([0x004, 0xE04, 0x604, 0x404, 0xC04, 0xA04, 0x204, 0x804] : List Word).map
      (fun c => (c.getLsbD 11, c.getLsbD 10, c.getLsbD 9)) =
      [(false, false, false), (true, true, true), (false, true, true), (false, true, false),
        (true, true, false), (true, false, true), (false, false, true), (true, false, false)] := by
  decide

theorem witness_T0PipelineReducesToArchitected :
    (fields 31 0b10 true false true).sham < 32 ∧ noExtra.lufunc = 0 ∧ noExtra.shlza = false ∧
    noExtra.shlv = false ∧ noExtra.au = false ∧ noExtra.bu = false ∧ noExtra.shrv = false ∧
    noExtra.sepsham = false ∧ noExtra.shrl = false ∧ noExtra.lures = false ∧ noExtra.noclip = false ∧
    noExtra.wcond = 0 := by
  decide

end Sys2Proof.Tests
end

section
/-! PROOFS. What each instruction computes, as one of the shared operations of the model together with its footprint:
one table for the vector unit, one for the scalar unit. Facts about every instruction are proved on these tables. -/

namespace Sys2Proof.Machine

/-! ## The vector unit (40 to 45) -/

/-- What an instruction of the vector unit does in a state: the shared operation that it runs, and its footprint. -/
inductive VectorMeaning (s : State) : Instr → Prop where
  | readControl (rt : Reg) (cs : CReg) : VectorMeaning s (.cfvu rt cs)
  | writeControl (rt : Reg) (cs : CReg) : VectorMeaning s (.ctvu rt cs)
  | extractVector (vd vt : VReg) (rd : Reg) : VectorMeaning s (.vextV vd vt rd)
  | insertScalar (rt : Reg) (vd : VReg) (rd : Reg) : VectorMeaning s (.vinsS rt vd rd)
  | extractScalar (rt : Reg) (vd : VReg) (rd : Reg) : VectorMeaning s (.vextS rt vd rd)
  | int {i : Instr} (vw : VReg) (operands : Nat → Word × Word) (g : Word → Word → Word)
      (he : exec i s = vecInt i i.vectorRegisters vw operands g s)
      (hf : i.footprint s = { vregs := [vw] }) : VectorMeaning s i
  | intOverflow {i : Instr} (vw : VReg) (operands : Nat → Word × Word) (g : Word → Word → Word)
      (o : Word → Word → Bool) (he : exec i s = vecIntOverflow i i.vectorRegisters vw operands g o s)
      (hf : i.footprint s = { vregs := [vw], vovf := true }) : VectorMeaning s i
  | flag {i : Instr} (operands : Nat → Word × Word) (p : Word → Word → Bool)
      (he : exec i s = vecFlag i i.vectorRegisters operands p s)
      (hf : i.footprint s = { vcond := true }) : VectorMeaning s i
  | move {i : Instr} (vw : VReg) (operands : Nat → Word × Word) (p : Word → Bool)
      (he : exec i s = vecMove i i.vectorRegisters vw operands p s)
      (hf : i.footprint s = { vregs := [vw] }) : VectorMeaning s i
  | fixed {i : Instr} (vw : VReg) (rd : Reg) (operands : Nat → Word × Word) (op : FxOp)
      (he : exec i s = vecFixed i i.vectorRegisters vw rd operands op s)
      (hf : i.footprint s = { vregs := [vw], vsat := true }) : VectorMeaning s i
  | access {i : Instr} (m : VectorAccess) (hm : i.vectorAccess = some m) : VectorMeaning s i

/-- Every instruction of the vector unit runs one of its shared operations. -/
theorem vectorMeaning_of_isVu (s : State) (i : Instr) (h : i.isVu = true) : VectorMeaning s i := by
  cases i with
  | cfvu rt cs => exact .readControl rt cs
  | ctvu rt cs => exact .writeControl rt cs
  | vextV vd vt rd => exact .extractVector vd vt rd
  | vinsS rt vd rd => exact .insertScalar rt vd rd
  | vextS rt vd rd => exact .extractScalar rt vd rd
  | lbaiV | lhaiV | lwaiV | lbuaiV | lhuaiV | lbxV | lhxV | lwxV | lbuxV | lhuxV | lbstV | lhstV | lwstV
  | lbustV | lhustV | sbaiV | shaiV | swaiV | sbxV | shxV | swxV | sbstV | shstV | swstV =>
    exact .access _ rfl
  | addVV | addVS | subVV | subVS | subSV => exact .intOverflow _ _ _ _ (by dsimp only [exec]; rfl) rfl
  | fltVV | fltVS | fltSV | fltuVV | fltuVS | fltuSV | feqVV | feqVS =>
    exact .flag _ _ (by dsimp only [exec]; rfl) rfl
  | cmvnezVV | cmvgezVV | cmvlezVV | cmveqzVV | cmvltzVV | cmvgtzVV | cmvnezVS | cmvgezVS | cmvlezVS
  | cmveqzVS | cmvltzVS | cmvgtzVS => exact .move _ _ _ (by dsimp only [exec]; rfl) rfl
  | fxaddVV | fxaddVS | fxaddSV | fxsubVV | fxsubVS | fxsubSV | fxmulVV | fxmulVS | fxmulSV =>
    exact .fixed _ _ _ _ (by dsimp only [exec]; rfl) rfl
  | andVV | andVS | orVV | orVS | xorVV | xorVS | norVV | norVS | adduVV | adduVS | subuVV | subuVS | subuSV
  | sllvVV | sllvVS | sllvSV | sravVV | sravVS | sravSV | srlvVV | srlvVS | srlvSV | sltVV | sltVS | sltSV
  | sltuVV | sltuVS | sltuSV | seqVV | seqVS => exact .int _ _ _ (by dsimp only [exec]; rfl) rfl
  | _ => cases h

/-! ## The scalar unit (47, 48) -/

/-- What a scalar instruction does in a state: the shared operation that it runs, and its footprint. -/
inductive ScalarMeaning (s : State) : Instr → Prop where
  | result {i : Instr} (rd : Reg) (w : Word) (he : exec i s = writeResult rd w s)
      (hf : i.footprint s = { regs := [rd] }) : ScalarMeaning s i
  | resultOrOverflow {i : Instr} (o : Bool) (rd : Reg) (w : Word)
      (he : exec i s = writeOrOverflow o rd w s) (hf : i.footprint s = { regs := [rd] }) : ScalarMeaning s i
  | hiLo {i : Instr} (hi lo : Word) (he : exec i s = hiLoGuard s (.next (s.setHiLo hi lo).advance))
      (hf : i.footprint s = { hiLo := true }) : ScalarMeaning s i
  | quotient {i : Instr} (byZero : Bool) (q r : Int)
      (he : exec i s = hiLoGuard s (.next (s.setQuotient byZero q r).advance))
      (hf : i.footprint s = { hiLo := true }) : ScalarMeaning s i
  | hiLoRead {i : Instr} (rd : Reg) (w : Word) (he : exec i s = .next (s.setX rd w).advance.markHiLoRead)
      (hf : i.footprint s = { regs := [rd] }) : ScalarMeaning s i
  | load {i : Instr} (size : Size) (ext : Extension) (rt : Reg) (a : Word)
      (he : exec i s = scalarLoad size ext rt a s)
      (hf : i.footprint s = { regs := [rt], order := true }) : ScalarMeaning s i
  | store {i : Instr} (size : Size) (rt : Reg) (a : Word) (he : exec i s = scalarStore size rt a s)
      (hf : i.footprint s = { order := true, bytes := byteAddrs a size.bytes }) : ScalarMeaning s i
  | partialLoad {i : Instr} (lanes : List (Nat × Nat)) (rt : Reg) (he : exec i s = loadLanes lanes rt s)
      (hf : i.footprint s = { regs := [rt], order := true }) : ScalarMeaning s i
  | partialStore {i : Instr} (lanes : List (Nat × Nat)) (rt : Reg) (he : exec i s = storeLanes lanes rt s)
      (hf : i.footprint s = { order := true, bytes := lanes.map fun l => l.1 }) : ScalarMeaning s i
  | loadLinked (rt : Reg) (imm : BitVec 16) (rs : Reg) : ScalarMeaning s (.ll rt imm rs)
  | storeConditional (rt : Reg) (imm : BitVec 16) (rs : Reg) : ScalarMeaning s (.sc rt imm rs)
  | sync : ScalarMeaning s .sync
  | branch {i : Instr} (likely taken : Bool) (imm : BitVec 16) (he : exec i s = condBranch likely taken imm s)
      (hf : i.footprint s = { }) : ScalarMeaning s i
  | branchLink {i : Instr} (likely taken : Bool) (rs : Reg) (imm : BitVec 16)
      (he : exec i s = condBranchLink likely taken rs imm s)
      (hf : i.footprint s = { regs := [31] }) : ScalarMeaning s i
  | jump {i : Instr} (target : Word) (he : exec i s = jumpTo s target s)
      (hf : i.footprint s = { }) : ScalarMeaning s i
  | jumpLink (target : BitVec 26) : ScalarMeaning s (.jal target)
  | jumpLinkRegister (rd rs : Reg) : ScalarMeaning s (.jalr rd rs)
  | trapIf {i : Instr} (c : Bool) (he : exec i s = condTrap c s)
      (hf : i.footprint s = { }) : ScalarMeaning s i
  | raise {i : Instr} (c : Cause) (info : TrapInfo) (he : exec i s = s.raise c info)
      (hf : i.footprint s = { }) : ScalarMeaning s i

/-- Every scalar instruction runs one of the shared operations. -/
theorem scalarMeaning_of_not_isVu (s : State) (i : Instr) (h : i.isVu = false) : ScalarMeaning s i := by
  cases i with
  | addu | subu | and | or | xor | nor | slt | sltu | addiu | slti | sltiu | andi | ori | xori | lui | sll | srl
  | sra | sllv | srlv | srav => exact .result _ _ rfl rfl
  | add | sub | addi => exact .resultOrOverflow _ _ _ rfl rfl
  | mult | multu | mthi | mtlo => exact .hiLo _ _ rfl rfl
  | div | divu => exact .quotient _ _ _ rfl rfl
  | mfhi | mflo => exact .hiLoRead _ _ rfl rfl
  | lb | lbu | lh | lhu | lw => exact .load _ _ _ _ rfl rfl
  | sb | sh | sw => exact .store _ _ _ rfl rfl
  | lwl | lwr => exact .partialLoad _ _ rfl rfl
  | swl | swr => exact .partialStore _ _ rfl rfl
  | ll rt imm rs => exact .loadLinked rt imm rs
  | sc rt imm rs => exact .storeConditional rt imm rs
  | sync => exact .sync
  | beq | bne | blez | bgtz | bltz | bgez | beql | bnel | blezl | bgtzl | bltzl | bgezl =>
    exact .branch _ _ _ rfl rfl
  | bltzal | bgezal | bltzall | bgezall => exact .branchLink _ _ _ _ rfl rfl
  | j | jr => exact .jump _ rfl rfl
  | jal target => exact .jumpLink target
  | jalr rd rs => exact .jumpLinkRegister rd rs
  | tge | tgeu | tlt | tltu | teq | tne | tgei | tgeiu | tlti | tltiu | teqi | tnei => exact .trapIf _ rfl rfl
  | syscall | brk => exact .raise _ _ rfl rfl
  | _ => cases h

end Sys2Proof.Machine
end

section
/-! PROOFS. The frame of every instruction: an instruction that answers a next state has changed nothing outside its
footprint. One lemma for each unit, by cases on the table of meanings. -/

namespace Sys2Proof.Machine

variable {s t : State} {i : Instr}

/-! ## Vector loads and stores (42) -/

/-- The scalar registers that an addressing mode increments. -/
def VecMode.incremented : VecMode → List Reg
  | .unit rd _ => [rd]
  | .strided _ _ => []
  | .indexed _ _ => []

/-- The footprint of a vector load or store, from its access. -/
def VectorAccess.footprint (m : VectorAccess) (s : State) : Footprint :=
  match m.kind with
  | .read => { regs := m.mode.incremented, vregs := [m.vd], order := true }
  | .write =>
    { regs := m.mode.incremented, linkBit := true, order := true,
      bytes := s.elementBytes m.mode m.size s.vlr.toNat }

theorem footprint_of_vectorAccess (s : State) {m : VectorAccess} (hm : i.vectorAccess = some m) :
    i.footprint s = m.footprint s := by
  cases i <;> cases hm <;> rfl

theorem vectorRegisters_of_vectorAccess {m : VectorAccess} (hm : i.vectorAccess = some m) :
    i.vectorRegisters = m.vd :: m.mode.regs := by
  cases i <;> cases hm <;> rfl

theorem isMemory_of_vectorAccess {m : VectorAccess} (hm : i.vectorAccess = some m) :
    i.isMemory = true := by
  cases i <;> cases hm <;> rfl

theorem VecMode.mem_incremented (mode : VecMode) :
    ∀ rd rt, mode = .unit rd rt → rd ∈ mode.incremented := by
  rintro rd rt rfl
  exact List.mem_singleton_self rd

theorem frame_of_vectorAccess {m : VectorAccess} (hm : i.vectorAccess = some m) (h : exec i s = .next t) :
    Unchanged (i.footprint s) s t := by
  rw [footprint_of_vectorAccess s hm]
  obtain ⟨hk, ext, he⟩ | ⟨hk, he⟩ := exec_of_vectorAccess i m s hm
  · rw [he] at h
    simp only [VectorAccess.footprint, hk]
    exact frame_vecLoad rfl m.mode.mem_incremented (List.mem_singleton_self m.vd) h
  · rw [he] at h
    simp only [VectorAccess.footprint, hk]
    exact frame_vecStore rfl m.mode.mem_incremented rfl (fun _ hb => hb) h

/-! ## Control registers, insert and extract (40, 41) -/

/-- What a `cfvu` that answers a next state has done. -/
theorem next_of_execCfvu {rt : Reg} {cs : CReg} (h : execCfvu rt cs s = .next t) :
    t = s.trapped .coprocessorUnusable (.unit 2) ∨
    (cs = 1 ∧ t = (s.drawVcount.setX rt s.drawVcount.vcount).advance) ∨
    ∃ w, t = (s.setX rt w).advance := by
  unfold execCfvu at h
  split_ifs at h
  · cases h
    exact .inl rfl
  split at h <;> cases h
  · exact .inr (.inr ⟨_, rfl⟩)
  · exact .inr (.inl ⟨rfl, rfl⟩)
  all_goals exact .inr (.inr ⟨_, rfl⟩)

/-- What a `ctvu` that answers a next state has done. -/
theorem next_of_execCtvu {rt : Reg} {cs : CReg} (h : execCtvu rt cs s = .next t) :
    t = s.trapped .coprocessorUnusable (.unit 2) ∨
    (cs = 2 ∧ t = (s.setVlr (s.x rt)).advance) ∨ (cs = 4 ∧ t = (s.setVcond (s.x rt)).advance) ∨
    (cs = 8 ∧ t = (s.setVovf (s.x rt)).advance) ∨ (cs = 12 ∧ t = (s.setVsat (s.x rt)).advance) := by
  unfold execCtvu at h
  split_ifs at h
  · cases h
    exact .inl rfl
  split at h <;> cases h
  · exact .inr (.inl ⟨rfl, rfl⟩)
  · exact .inr (.inr (.inl ⟨rfl, rfl⟩))
  · exact .inr (.inr (.inr (.inl ⟨rfl, rfl⟩)))
  · exact .inr (.inr (.inr (.inr ⟨rfl, rfl⟩)))

theorem Unchanged.drawVcount {f : Footprint} (hf : f.vcount = true) (h : Unchanged f s t) :
    Unchanged f s t.drawVcount :=
  { h with vcount := fun e => absurd (hf.symm.trans e) (by decide) }

theorem Unchanged.setVlr {f : Footprint} (w : Word) (hf : f.vlr = true) (h : Unchanged f s t) :
    Unchanged f s (t.setVlr w) :=
  { h with vlr := fun e => absurd (hf.symm.trans e) (by decide) }

theorem Unchanged.setVcond {f : Footprint} (w : Word) (hf : f.vcond = true) (h : Unchanged f s t) :
    Unchanged f s (t.setVcond w) :=
  { h with vcond := fun e => absurd (hf.symm.trans e) (by decide) }

theorem Unchanged.setVovf {f : Footprint} (w : Word) (hf : f.vovf = true) (h : Unchanged f s t) :
    Unchanged f s (t.setVovf w) :=
  { h with vovf := fun e => absurd (hf.symm.trans e) (by decide) }

theorem Unchanged.setVsat {f : Footprint} (w : Word) (hf : f.vsat = true) (h : Unchanged f s t) :
    Unchanged f s (t.setVsat w) :=
  { h with vsat := fun e => absurd (hf.symm.trans e) (by decide) }

theorem frame_execCfvu {f : Footprint} {rt : Reg} {cs : CReg} (hr : rt ∈ f.regs)
    (hc : cs = 1 → f.vcount = true) (h : execCfvu rt cs s = .next t) : Unchanged f s t := by
  obtain rfl | ⟨hcs, rfl⟩ | ⟨w, rfl⟩ := next_of_execCfvu h
  · exact unchanged_trapped f s _ _
  · exact (((unchanged_refl f s).drawVcount (hc hcs)).setX rt _ hr).advance
  · exact ((unchanged_refl f s).setX rt w hr).advance

theorem frame_execCtvu {rt : Reg} {cs : CReg} (h : execCtvu rt cs s = .next t) :
    Unchanged ((Instr.ctvu rt cs).footprint s) s t := by
  obtain rfl | ⟨rfl, rfl⟩ | ⟨rfl, rfl⟩ | ⟨rfl, rfl⟩ | ⟨rfl, rfl⟩ := next_of_execCtvu h
  · exact unchanged_trapped _ s _ _
  · exact ((unchanged_refl _ s).setVlr _ rfl).advance
  · exact ((unchanged_refl _ s).setVcond _ rfl).advance
  · exact ((unchanged_refl _ s).setVovf _ rfl).advance
  · exact ((unchanged_refl _ s).setVsat _ rfl).advance

/-- What a vector instruction that answers a next state has done: its prologue raised, or its own rule answered. -/
theorem next_of_vectorPrologue {regs : List VReg} {k : Nat → Result}
    (h : s.vectorPrologue i regs k = .next t) :
    (∃ c info, t = s.trapped c info) ∨ k s.vlr.toNat = .next t := by
  obtain e | e | e | ⟨-, -, -, e⟩ := vectorPrologue_cases s i regs k <;> rw [e] at h
  · cases h
    exact .inl ⟨_, _, rfl⟩
  · cases h
    exact .inl ⟨_, _, rfl⟩
  · cases h
    exact .inl ⟨_, _, rfl⟩
  · exact .inr h

/-- What a `vext.v` that answers a next state has done; with `vlr = 0` it writes no element. -/
theorem next_of_execVextV {vd vt : VReg} {rd : Reg} (h : execVextV vd vt rd s = .next t) :
    (∃ c info, t = s.trapped c info) ∨ t = s.advance ∨ ∃ g, t = (s.setV vd s.vlr.toNat g).advance := by
  obtain ht | hn := next_of_vectorPrologue h
  · exact .inl ht
  dsimp only at hn
  split_ifs at hn
  · cases hn
    exact .inr (.inl rfl)
  · cases hn
    exact .inl ⟨_, _, rfl⟩
  · cases hn
    exact .inr (.inr ⟨_, rfl⟩)

theorem frame_execVextV {f : Footprint} {vd vt : VReg} {rd : Reg} (hv : vd ∈ f.vregs)
    (h : execVextV vd vt rd s = .next t) : Unchanged f s t := by
  obtain ⟨c, info, rfl⟩ | rfl | ⟨g, rfl⟩ := next_of_execVextV h
  · exact unchanged_trapped f s c info
  · exact (unchanged_refl f s).advance
  · exact ((unchanged_refl f s).setV vd _ g hv).advance

theorem frame_execVinsS {f : Footprint} {rt : Reg} {vd : VReg} {rd : Reg} (hv : vd ∈ f.vregs)
    (h : execVinsS rt vd rd s = .next t) : Unchanged f s t := by
  refine frame_elementPrologue (fun hn => ?_) h
  cases hn
  exact ((unchanged_refl f s).setVWhere vd _ _ hv).advance

theorem frame_execVextS {f : Footprint} {rt : Reg} {vd : VReg} {rd : Reg} (hr : rt ∈ f.regs)
    (h : execVextS rt vd rd s = .next t) : Unchanged f s t := by
  refine frame_elementPrologue (fun hn => ?_) h
  cases hn
  exact ((unchanged_refl f s).setX rt _ hr).advance

/-! ## What scalar instructions that answer a next state have done (48) -/

theorem next_of_condBranch {likely taken : Bool} {imm : BitVec 16} (h : condBranch likely taken imm s = .next t) :
    t = s.branchStep likely taken (s.branchTarget imm) := by
  unfold condBranch at h
  split_ifs at h
  cases h
  rfl

theorem next_of_condBranchLink {likely taken : Bool} {rs : Reg} {imm : BitVec 16}
    (h : condBranchLink likely taken rs imm s = .next t) :
    t = (s.setX 31 s.linkAddr).branchStep likely taken (s.branchTarget imm) := by
  unfold condBranchLink at h
  split_ifs at h
  cases h
  rfl

theorem next_of_jumpTo {linked : State} {target : Word} (h : jumpTo linked target s = .next t) :
    t = linked.branchTo target := by
  unfold jumpTo at h
  split_ifs at h
  cases h
  rfl

theorem next_of_execJalr {rd rs : Reg} (h : execJalr rd rs s = .next t) :
    t = (s.setX rd s.linkAddr).branchTo (s.x rs) := by
  unfold execJalr at h
  split_ifs at h
  exact next_of_jumpTo h

/-- A scalar access raised Address error, or was granted and its transfer answered (R391). -/
theorem next_of_scalarAccess {kind : AccessKind} {size : Size} {a : Word} {k : State → Result}
    (h : scalarAccess kind size a k s = .next t) :
    (∃ c info, t = s.trapped c info) ∨
    (Grants s ⟨.scalar, kind, byteAddrs a size.bytes⟩ ∧
      k (s.recordAccess ⟨.scalar, kind, byteAddrs a size.bytes⟩) = .next t) := by
  unfold scalarAccess at h
  split_ifs at h
  · exact .inr (grants_of_access s t _ _ h)
  · cases kind <;> cases h <;> exact .inl ⟨_, _, rfl⟩

/-- An `ll` raised, or it loaded and linked. -/
theorem next_of_execLl {rt : Reg} {imm : BitVec 16} {rs : Reg} (h : execLl rt imm rs s = .next t) :
    (∃ c info, t = s.trapped c info) ∨
    ∃ new w, t = (((s.recordAccess new).setX rt w).setLink true (s.scalarAddr rs imm)).advance := by
  obtain ht | ⟨-, hn⟩ := next_of_scalarAccess h
  · exact .inl ht
  · cases hn
    exact .inr ⟨_, _, rfl⟩

/-- An `sc` raised, failed, or stored. -/
theorem next_of_execSc {rt : Reg} {imm : BitVec 16} {rs : Reg} (h : execSc rt imm rs s = .next t) :
    (∃ c info, t = s.trapped c info) ∨ t = ((s.setX rt 0).setLink false s.llAddr).advance ∨
    ∃ new : AccessRecord, ∃ cells : List Host.Cell, (∀ c ∈ cells, c.1 ∈ byteAddrs (s.scalarAddr rs imm) 4) ∧
      t = ((((s.recordAccess new).writeCells cells).setX rt 1).setLink false s.llAddr).advance := by
  unfold execSc at h
  dsimp only at h
  split_ifs at h
  · cases h
    exact .inl ⟨_, _, rfl⟩
  · cases h
    exact .inr (.inl rfl)
  · have hn := (grants_of_access s t _ _ h).2
    cases hn
    exact .inr (.inr ⟨_, _, fun c hc => mem_byteAddrs_of_storeCells _ _ _ _ c hc, rfl⟩)

/-! ## The frame of each unit -/

/-- Every instruction of the vector unit leaves everything outside its footprint unchanged. -/
theorem frame_of_vectorMeaning (hm : VectorMeaning s i) (h : exec i s = .next t) :
    Unchanged (i.footprint s) s t := by
  cases hm with
  | readControl rt cs =>
    exact frame_execCfvu (List.mem_singleton_self rt) (fun e => beq_iff_eq.2 e) h
  | writeControl rt cs => exact frame_execCtvu h
  | extractVector vd vt rd => exact frame_execVextV (List.mem_singleton_self vd) h
  | insertScalar rt vd rd => exact frame_execVinsS (List.mem_singleton_self vd) h
  | extractScalar rt vd rd => exact frame_execVextS (List.mem_singleton_self rt) h
  | int vw operands g he hf =>
    rw [hf]
    exact frame_vecInt (List.mem_singleton_self vw) (he ▸ h)
  | intOverflow vw operands g o he hf =>
    rw [hf]
    exact frame_vecIntOverflow (List.mem_singleton_self vw) rfl (he ▸ h)
  | flag operands p he hf =>
    rw [hf]
    exact frame_vecFlag rfl (he ▸ h)
  | move vw operands p he hf =>
    rw [hf]
    exact frame_vecMove (List.mem_singleton_self vw) (he ▸ h)
  | fixed vw rd operands op he hf =>
    rw [hf]
    exact frame_vecFixed (List.mem_singleton_self vw) rfl (he ▸ h)
  | access m ha => exact frame_of_vectorAccess ha h

theorem Unchanged.setLink {f : Footprint} (b : Bool) (a : Word) (hb : f.linkBit = true)
    (ha : f.linkAddr = false → a = s.llAddr) (h : Unchanged f s t) : Unchanged f s (t.setLink b a) :=
  { h with
    llBit := fun e => absurd (hb.symm.trans e) (by decide)
    llAddr := ha }

theorem frame_execLl {rt : Reg} {imm : BitVec 16} {rs : Reg} (h : execLl rt imm rs s = .next t) :
    Unchanged ((Instr.ll rt imm rs).footprint s) s t := by
  obtain ⟨c, info, rfl⟩ | ⟨new, w, rfl⟩ := next_of_execLl h
  · exact unchanged_trapped _ s c info
  · exact ((((unchanged_refl _ s).recordAccess new rfl).setX rt w (List.mem_singleton_self rt)).setLink
      true _ rfl fun e => by cases e).advance

theorem frame_execSc {rt : Reg} {imm : BitVec 16} {rs : Reg} (h : execSc rt imm rs s = .next t) :
    Unchanged ((Instr.sc rt imm rs).footprint s) s t := by
  have hr : rt ∈ ((Instr.sc rt imm rs).footprint s).regs := List.mem_singleton_self rt
  obtain ⟨c, info, rfl⟩ | rfl | ⟨new, cells, hc, rfl⟩ := next_of_execSc h
  · exact unchanged_trapped _ s c info
  · exact (((unchanged_refl _ s).setX rt 0 hr).setLink false _ rfl fun _ => rfl).advance
  · exact (((((unchanged_refl _ s).recordAccess new rfl).writeCells cells hc).setX rt 1 hr).setLink
      false _ rfl fun _ => rfl).advance

theorem Unchanged.markHiLoRead {f : Footprint} (h : Unchanged f s t) : Unchanged f s t.markHiLoRead :=
  { h with }

theorem frame_execSync (h : execSync s = .next t) : Unchanged (Instr.sync.footprint s) s t := by
  cases h
  exact { unchanged_refl _ s with unsynced := fun e => by cases e }

theorem frame_execJalr {f : Footprint} {rd rs : Reg} (hr : rd ∈ f.regs) (h : execJalr rd rs s = .next t) :
    Unchanged f s t := by
  obtain rfl := next_of_execJalr h
  exact ((unchanged_refl f s).setX rd _ hr).branchTo _

/-- Every scalar instruction leaves everything outside its footprint unchanged. -/
theorem frame_of_scalarMeaning (hm : ScalarMeaning s i) (h : exec i s = .next t) :
    Unchanged (i.footprint s) s t := by
  cases hm with
  | result rd w he hf =>
    rw [hf]
    exact frame_writeResult (List.mem_singleton_self rd) (he ▸ h)
  | resultOrOverflow o rd w he hf =>
    rw [hf]
    exact frame_writeOrOverflow (List.mem_singleton_self rd) (he ▸ h)
  | hiLo hi lo he hf =>
    obtain ⟨-, hn⟩ := next_of_hiLoGuard (he ▸ h)
    cases hn
    rw [hf]
    exact ((unchanged_refl _ s).setHiLo hi lo rfl).advance
  | quotient byZero q r he hf =>
    obtain ⟨-, hn⟩ := next_of_hiLoGuard (he ▸ h)
    cases hn
    rw [hf]
    exact (frame_setQuotient byZero q r rfl).advance
  | hiLoRead rd w he hf =>
    rw [he] at h
    cases h
    rw [hf]
    exact ((unchanged_refl _ s).setX rd w (List.mem_singleton_self rd)).advance.markHiLoRead
  | load size ext rt a he hf =>
    rw [hf]
    exact frame_scalarLoad rfl (List.mem_singleton_self rt) (he ▸ h)
  | store size rt a he hf =>
    rw [hf]
    exact frame_scalarStore rfl (fun _ hb => hb) (he ▸ h)
  | partialLoad lanes rt he hf =>
    rw [hf]
    exact frame_loadLanes rfl (List.mem_singleton_self rt) (he ▸ h)
  | partialStore lanes rt he hf =>
    rw [hf]
    exact frame_storeLanes rfl (fun l hl => List.mem_map_of_mem hl) (he ▸ h)
  | loadLinked rt imm rs => exact frame_execLl h
  | storeConditional rt imm rs => exact frame_execSc h
  | sync => exact frame_execSync h
  | branch likely taken imm he hf => exact frame_condBranch _ (he ▸ h)
  | branchLink likely taken rs imm he hf =>
    rw [hf]
    exact frame_condBranchLink (List.mem_singleton_self 31) (he ▸ h)
  | jump target he hf => exact frame_jumpTo (unchanged_refl _ s) (he ▸ h)
  | jumpLink target =>
    exact frame_jumpTo ((unchanged_refl _ s).setX 31 _ (List.mem_singleton_self 31)) h
  | jumpLinkRegister rd rs => exact frame_execJalr (List.mem_singleton_self rd) h
  | trapIf c he hf => exact frame_condTrap _ (he ▸ h)
  | raise c info he hf => exact frame_raise _ (he ▸ h)

/-- Every instruction leaves everything outside its footprint unchanged. -/
theorem unchanged_of_exec (h : exec i s = .next t) : Unchanged (i.footprint s) s t := by
  cases hv : i.isVu with
  | true => exact frame_of_vectorMeaning (vectorMeaning_of_isVu s i hv) h
  | false => exact frame_of_scalarMeaning (scalarMeaning_of_not_isVu s i hv) h

end Sys2Proof.Machine
end

section
/-! PROOFS. The invariant at reset, the frame of the vector unit, and what its instructions do before their own rule. -/

namespace Sys2Proof.Machine

variable {s t : State} {i : Instr}

/-! ## Reset -/

/-- Settles O9: every field of the invariant is read off the reset state. -/
theorem resetMeetsInvariant : Obligations.ResetMeetsInvariant where
  memory := reset_mem_wf
  sequential _ := rfl
  hiLoCount := le_refl 2
  ordered := List.Pairwise.nil
  unordered _ := rfl
  trapped r hr := by cases hr

/-! ## Frames of the vector unit -/

/-- An instruction of the vector unit that is no load or store has no bytes in its footprint. -/
theorem footprint_bytes_of_vectorMeaning (hm : VectorMeaning s i) (hi : i.isMemory = false) :
    (i.footprint s).bytes = [] := by
  cases hm with
  | readControl | writeControl | extractVector | insertScalar | extractScalar => rfl
  | int _ _ _ _ hf | intOverflow _ _ _ _ _ hf | flag _ _ _ hf | move _ _ _ _ hf | fixed _ _ _ _ _ hf => rw [hf]
  | access m ha => exact absurd (isMemory_of_vectorAccess ha) (by simp [hi])

/-- Settles O19, from the frame of the whole vector unit. -/
theorem vectorRegisterFrame : Obligations.VectorRegisterFrame := by
  intro s t i hv hi h
  exact ⟨footprint_bytes_of_vectorMeaning (vectorMeaning_of_isVu s i hv) hi, unchanged_of_exec h⟩

/-! ## The prologue of the vector unit (R100) -/

theorem vectorPrologue_of_unusable (regs : List VReg) (k : Nat → Result) (hc : s.cu2 = false) :
    s.vectorPrologue i regs k = s.raiseCpU 2 := by
  simp [State.vectorPrologue, hc]

theorem vectorPrologue_of_missing {regs : List VReg} (k : Nat → Result) (hc : s.cu2 = true)
    (hr : ∃ j ∈ regs, s.cfg.nvreg ≤ j.toNat) :
    s.vectorPrologue i regs k = s.raise .reservedInstruction (.word (encode i)) := by
  simp [State.vectorPrologue, hc, hr]

theorem vectorPrologue_of_long {regs : List VReg} (k : Nat → Result) (hc : s.cu2 = true)
    (hr : ∀ j ∈ regs, j.toNat < s.cfg.nvreg) (hl : 32 < s.vlr.toNat) :
    s.vectorPrologue i regs k = s.raise .vectorOperation (.word (encode i)) := by
  have hp : ¬ ∃ j ∈ regs, s.cfg.nvreg ≤ j.toNat := fun ⟨j, hj, hn⟩ => absurd (hr j hj) (by omega)
  simp [State.vectorPrologue, hc, hp, hl]

/-- Every instruction that runs over `vlr` elements begins with the whole prologue, over the registers it names. -/
theorem exec_eq_vectorPrologue (s : State) (h : i.runsOverVlr = true) (hm : VectorMeaning s i) :
    ∃ k, exec i s = s.vectorPrologue i i.vectorRegisters k := by
  cases hm with
  | readControl | writeControl | insertScalar | extractScalar => cases h
  | extractVector vd vt rd => exact ⟨_, by dsimp only [exec, execVextV]; rfl⟩
  | int _ _ _ he | intOverflow _ _ _ _ he | flag _ _ he | move _ _ _ he | fixed _ _ _ _ he => exact ⟨_, he⟩
  | access m ha =>
    rw [vectorRegisters_of_vectorAccess ha]
    obtain ⟨-, ext, he⟩ | ⟨-, he⟩ := exec_of_vectorAccess i m s ha
    · exact ⟨_, by rw [he, vecLoad, vecMem]⟩
    · exact ⟨_, by rw [he, vecStore, vecMem]⟩

theorem isVu_of_runsOverVlr (h : i.runsOverVlr = true) : i.isVu = true := by
  cases i with
  | cfvu | ctvu | vinsS | vextS => rfl
  | _ => exact h


theorem elementPrologue_of_unusable (vd : VReg) (rd : Reg) (k : Nat → Result) (hc : s.cu2 = false) :
    s.elementPrologue i vd rd k = s.raiseCpU 2 := by
  simp [State.elementPrologue, hc]

theorem elementPrologue_of_missing {vd : VReg} (rd : Reg) (k : Nat → Result) (hc : s.cu2 = true)
    (hr : s.cfg.nvreg ≤ vd.toNat) :
    s.elementPrologue i vd rd k = s.raise .reservedInstruction (.word (encode i)) := by
  simp [State.elementPrologue, hc, hr]

theorem exec_cfvu (s : State) (rt : Reg) (cs : CReg) : exec (.cfvu rt cs) s = execCfvu rt cs s := rfl

theorem exec_ctvu (s : State) (rt : Reg) (cs : CReg) : exec (.ctvu rt cs) s = execCtvu rt cs s := rfl

theorem exec_vinsS (s : State) (rt : Reg) (vd : VReg) (rd : Reg) :
    exec (.vinsS rt vd rd) s = execVinsS rt vd rd s := rfl

theorem exec_vextS (s : State) (rt : Reg) (vd : VReg) (rd : Reg) :
    exec (.vextS rt vd rd) s = execVextS rt vd rd s := rfl

/-- The vector unit is the instructions that run over `vlr` elements and four that do not (R35). -/
theorem isVu_cases (h : i.isVu = true) :
    i.runsOverVlr = true ∨ (∃ rt cs, i = .cfvu rt cs) ∨ (∃ rt cs, i = .ctvu rt cs) ∨
    (∃ rt vd rd, i = .vinsS rt vd rd) ∨ ∃ rt vd rd, i = .vextS rt vd rd := by
  cases i with
  | cfvu rt cs => exact .inr (.inl ⟨rt, cs, rfl⟩)
  | ctvu rt cs => exact .inr (.inr (.inl ⟨rt, cs, rfl⟩))
  | vinsS rt vd rd => exact .inr (.inr (.inr (.inl ⟨rt, vd, rd, rfl⟩)))
  | vextS rt vd rd => exact .inr (.inr (.inr (.inr ⟨rt, vd, rd, rfl⟩)))
  | _ => exact .inl h

/-- With coprocessor 2 unusable every instruction of the vector unit raises Coprocessor unusable (R452). -/
theorem exec_of_unusable (hv : i.isVu = true) (hc : s.cu2 = false) : exec i s = s.raiseCpU 2 := by
  obtain h | ⟨rt, cs, rfl⟩ | ⟨rt, cs, rfl⟩ | ⟨rt, vd, rd, rfl⟩ | ⟨rt, vd, rd, rfl⟩ := isVu_cases hv
  · obtain ⟨k, he⟩ := exec_eq_vectorPrologue s h (vectorMeaning_of_isVu s i hv)
    rw [he, vectorPrologue_of_unusable _ k hc]
  · simp [exec_cfvu, execCfvu, hc]
  · simp [exec_ctvu, execCtvu, hc]
  · rw [exec_vinsS, execVinsS, elementPrologue_of_unusable vd rd _ hc]
  · rw [exec_vextS, execVextS, elementPrologue_of_unusable vd rd _ hc]

/-- A vector register that the implementation lacks raises Reserved instruction (R29, R451). -/
theorem exec_of_missing (hv : i.isVu = true) (hc : s.cu2 = true)
    (hr : ∃ j ∈ i.vectorRegisters, s.cfg.nvreg ≤ j.toNat) :
    exec i s = s.raise .reservedInstruction (.word (encode i)) := by
  obtain h | ⟨rt, cs, rfl⟩ | ⟨rt, cs, rfl⟩ | ⟨rt, vd, rd, rfl⟩ | ⟨rt, vd, rd, rfl⟩ := isVu_cases hv
  · obtain ⟨k, he⟩ := exec_eq_vectorPrologue s h (vectorMeaning_of_isVu s i hv)
    rw [he, vectorPrologue_of_missing k hc hr]
  · obtain ⟨j, hj, -⟩ := hr
    cases hj
  · obtain ⟨j, hj, -⟩ := hr
    cases hj
  · obtain ⟨j, hj, hn⟩ := hr
    obtain rfl := List.mem_singleton.1 hj
    rw [exec_vinsS, execVinsS, elementPrologue_of_missing rd _ hc hn]
  · obtain ⟨j, hj, hn⟩ := hr
    obtain rfl := List.mem_singleton.1 hj
    rw [exec_vextS, execVextS, elementPrologue_of_missing rd _ hc hn]

/-- With its registers present, an instruction that runs over more than 32 elements raises Vector operation (R453). -/
theorem exec_of_long (h : i.runsOverVlr = true) (hc : s.cu2 = true)
    (hr : ∀ j ∈ i.vectorRegisters, j.toNat < s.cfg.nvreg) (hl : 32 < s.vlr.toNat) :
    exec i s = s.raise .vectorOperation (.word (encode i)) := by
  obtain ⟨k, he⟩ := exec_eq_vectorPrologue s h (vectorMeaning_of_isVu s i (isVu_of_runsOverVlr h))
  rw [he, vectorPrologue_of_long k hc hr hl]

/-- Settles O39: the three tests of the prologue, in their order. -/
theorem vectorPrologueTraps : Obligations.VectorPrologueTraps := fun _ _ hv =>
  ⟨exec_of_unusable hv, exec_of_missing hv, fun hc hr h hl => exec_of_long h hc hr hl⟩

end Sys2Proof.Machine
end

section
/-! PROOFS. Control register moves, who changes the registers of the vector unit, and the elements from `vlr` on. -/

namespace Sys2Proof.Machine

variable {s t : State} {i : Instr}

/-! ## Control register moves (40) -/

/-- A `cfvu` that writes a value and advances (R121). -/
theorem writes_of_execCfvu {rt : Reg} {cs : CReg} {w : Word}
    (he : execCfvu rt cs s = .next (s.setX rt w).advance) : Writes (.cfvu rt cs) s rt w :=
  writes_of_writeResult (.cfvu rt cs) s rt w he rfl

/-- `vrev` is zero, the implementation number, the revision number (R33). -/
theorem vrev_eq_ofNat (s : State) :
    s.vrev = BitVec.ofNat 32 (s.cfg.vrevImp.toNat * 256 + s.cfg.vrevRev.toNat) := by
  apply BitVec.eq_of_toNat_eq
  have hi := s.cfg.vrevImp.isLt
  have hr := s.cfg.vrevRev.isLt
  have h : s.vrev.toNat = s.cfg.vrevImp.toNat * 256 + s.cfg.vrevRev.toNat := by
    rw [State.vrev, BitVec.toNat_append, BitVec.toNat_append, ← Nat.shiftLeft_add_eq_or_of_lt hr]
    simp [Nat.shiftLeft_eq]
  rw [h, BitVec.toNat_ofNat, Nat.mod_eq_of_lt (by omega)]

theorem completes_cfvu_vcount {rt : Reg} (hc : s.cu2 = true) :
    Completes (.cfvu rt 1) s fun t => t.x rt = if rt = 0 then 0 else t.vcount := by
  have he : exec (.cfvu rt 1) s = .next (s.drawVcount.setX rt s.drawVcount.vcount).advance := by
    simp [exec_cfvu, execCfvu, hc]
  exact ⟨_, he, rfl, ⟨rfl, rfl, rfl⟩, unchanged_of_exec he, State.x_setX_same _ rt _⟩

/-- A `ctvu` that answers an advanced state which has neither trapped nor moved the program counter. -/
theorem completes_ctvu {rt : Reg} {cs : CReg} {u : State} {post : State → Prop}
    (he : execCtvu rt cs s = .next u.advance) (ht : u.trap = s.trap) (hn : u.npc = s.npc)
    (hp : post u.advance) : Completes (.ctvu rt cs) s post :=
  ⟨u.advance, he, ht, ⟨hn, congrArg (· + 4) hn, rfl⟩, unchanged_of_exec he, hp⟩

/-- Settles O41: one equation of `execCfvu` or `execCtvu` for each control register. -/
theorem controlRegisterMoves : Obligations.ControlRegisterMoves := by
  intro s rt hc
  refine ⟨?_, completes_cfvu_vcount hc, ?_, ?_, ?_, ?_, ?_, ?_, ?_, ?_⟩
  · rw [← vrev_eq_ofNat]
    exact writes_of_execCfvu (by simp [execCfvu, hc])
  · exact writes_of_execCfvu (by simp [execCfvu, hc])
  · exact writes_of_execCfvu (by simp [execCfvu, hc])
  · exact writes_of_execCfvu (by simp [execCfvu, hc])
  · exact writes_of_execCfvu (by simp [execCfvu, hc])
  · refine completes_ctvu (u := s.setVlr (s.x rt)) (by simp [execCtvu, hc]) rfl rfl ?_
    simp [State.setVlr]
  · exact completes_ctvu (u := s.setVcond (s.x rt)) (by simp [execCtvu, hc]) rfl rfl rfl
  · exact completes_ctvu (u := s.setVovf (s.x rt)) (by simp [execCtvu, hc]) rfl rfl rfl
  · exact completes_ctvu (u := s.setVsat (s.x rt)) (by simp [execCtvu, hc]) rfl rfl rfl

/-! ## Who changes `vlr`, `vcond`, `vovf`, `vsat` (R35 to R38) -/

theorem vlr_writers (s : State) (h : (i.footprint s).vlr = true) : ∃ rt, i = .ctvu rt 2 := by
  cases i with
  | ctvu rt cs => exact ⟨rt, by rw [eq_of_beq h]⟩
  | _ => cases h

theorem vcond_writers (s : State) (h : (i.footprint s).vcond = true) :
    (∃ rt, i = .ctvu rt 4) ∨ (∃ vd vt, i = .fltVV vd vt) ∨ (∃ vd rt, i = .fltVS vd rt) ∨
    (∃ rt vd, i = .fltSV rt vd) ∨ (∃ vd vt, i = .fltuVV vd vt) ∨ (∃ vd rt, i = .fltuVS vd rt) ∨
    (∃ rt vd, i = .fltuSV rt vd) ∨ (∃ vd vt, i = .feqVV vd vt) ∨ (∃ vd rt, i = .feqVS vd rt) := by
  cases i with
  | ctvu rt cs => exact .inl ⟨rt, by rw [eq_of_beq h]⟩
  | fltVV | fltVS | fltSV | fltuVV | fltuVS | fltuSV | feqVV | feqVS => simp
  | _ => cases h

theorem vovf_writers (s : State) (h : (i.footprint s).vovf = true) :
    (∃ rt, i = .ctvu rt 8) ∨ (∃ vw vd vt, i = .addVV vw vd vt) ∨ (∃ vw vd rt, i = .addVS vw vd rt) ∨
    (∃ vw vd vt, i = .subVV vw vd vt) ∨ (∃ vw vd rt, i = .subVS vw vd rt) ∨
    (∃ vw rt vd, i = .subSV vw rt vd) := by
  cases i with
  | ctvu rt cs => exact .inl ⟨rt, by rw [eq_of_beq h]⟩
  | addVV | addVS | subVV | subVS | subSV => simp
  | _ => cases h

theorem vsat_writers (s : State) (h : (i.footprint s).vsat = true) :
    (∃ rt, i = .ctvu rt 12) ∨
    (∃ vw vd vt rd, i = .fxaddVV vw vd vt rd) ∨ (∃ vw vd rt rd, i = .fxaddVS vw vd rt rd) ∨
    (∃ vw rt vd rd, i = .fxaddSV vw rt vd rd) ∨ (∃ vw vd vt rd, i = .fxsubVV vw vd vt rd) ∨
    (∃ vw vd rt rd, i = .fxsubVS vw vd rt rd) ∨ (∃ vw rt vd rd, i = .fxsubSV vw rt vd rd) ∨
    (∃ vw vd vt rd, i = .fxmulVV vw vd vt rd) ∨ (∃ vw vd rt rd, i = .fxmulVS vw vd rt rd) ∨
    (∃ vw rt vd rd, i = .fxmulSV vw rt vd rd) := by
  cases i with
  | ctvu rt cs => exact .inl ⟨rt, by rw [eq_of_beq h]⟩
  | fxaddVV | fxaddVS | fxaddSV | fxsubVV | fxsubVS | fxsubSV | fxmulVV | fxmulVS | fxmulSV => simp
  | _ => cases h

/-! ### The sticky bits (R37, R38) -/

/-- `vecIntOverflow` clears no bit of `vovf` (R183). -/
theorem vovf_kept_of_vecIntOverflow {regs : List VReg} {vw : VReg} {operands : Nat → Word × Word}
    {g : Word → Word → Word} {o : Word → Word → Bool} {k : Nat} (hk : k < 32)
    (h : vecIntOverflow i regs vw operands g o s = .next t) (hs : s.vovf.getLsbD k = true) :
    t.vovf.getLsbD k = true := by
  obtain ⟨c, info, rfl⟩ | hn := next_of_vectorPrologue h
  · exact hs
  · cases hn
    rw [State.vovf_advance, State.getLsbD_orVovf _ _ _ _ hk, State.vovf_setV, hs, Bool.true_or]

/-- What a fixed-point instruction that answers a next state has done. -/
theorem next_of_vecFixed {regs : List VReg} {vw : VReg} {rd : Reg} {operands : Nat → Word × Word} {op : FxOp}
    (h : vecFixed i regs vw rd operands op s = .next t) :
    (∃ c info, t = s.trapped c info) ∨
    ∃ out : Nat → FxOut, ∃ draws, t = (((s.setVWhere vw (fun k => decide (k < s.vlr.toNat) && (out k).write)
      fun k => (out k).value).orVsat s.vlr.toNat fun k => (out k).flag).drawn draws).advance := by
  obtain ht | hn := next_of_vectorPrologue h
  · exact .inl ht
  dsimp only at hn
  split at hn <;> cases hn
  exact .inr ⟨_, _, rfl⟩

/-- `vecFixed` clears no bit of `vsat` (R269). -/
theorem vsat_kept_of_vecFixed {regs : List VReg} {vw : VReg} {rd : Reg} {operands : Nat → Word × Word}
    {op : FxOp} {k : Nat} (hk : k < 32) (h : vecFixed i regs vw rd operands op s = .next t)
    (hs : s.vsat.getLsbD k = true) : t.vsat.getLsbD k = true := by
  obtain ⟨c, info, rfl⟩ | ⟨out, draws, rfl⟩ := next_of_vecFixed h
  · exact hs
  · rw [State.vsat_advance, State.vsat_drawn, State.getLsbD_orVsat _ _ _ _ hk, State.vsat_setVWhere, hs,
      Bool.true_or]

/-- A writer of `vovf` that is no `ctvu` adds or subtracts with the sticky flags. -/
theorem vovf_writer_meaning (s : State) (h : (i.footprint s).vovf = true) :
    (∃ rt, i = .ctvu rt 8) ∨
    ∃ vw operands g o, exec i s = vecIntOverflow i i.vectorRegisters vw operands g o s := by
  cases i with
  | ctvu rt cs => exact .inl ⟨rt, by rw [eq_of_beq h]⟩
  | addVV | addVS | subVV | subVS | subSV => exact .inr ⟨_, _, _, _, by dsimp only [exec]; rfl⟩
  | _ => cases h

/-- A writer of `vsat` that is no `ctvu` is a fixed-point instruction. -/
theorem vsat_writer_meaning (s : State) (h : (i.footprint s).vsat = true) :
    (∃ rt, i = .ctvu rt 12) ∨
    ∃ vw rd operands op, exec i s = vecFixed i i.vectorRegisters vw rd operands op s := by
  cases i with
  | ctvu rt cs => exact .inl ⟨rt, by rw [eq_of_beq h]⟩
  | fxaddVV | fxaddVS | fxaddSV | fxsubVV | fxsubVS | fxsubSV | fxmulVV | fxmulVS | fxmulSV =>
    exact .inr ⟨_, _, _, _, by dsimp only [exec]; rfl⟩
  | _ => cases h

/-- Only `ctvu` clears a bit of `vovf` (R37). -/
theorem ctvu_of_vovf_cleared (h : exec i s = .next t) {k : Nat} (hk : k < 32)
    (hs : s.vovf.getLsbD k = true) (ht : t.vovf.getLsbD k = false) : ∃ rt, i = .ctvu rt 8 := by
  have hf : (i.footprint s).vovf = true := Bool.eq_true_of_not_eq_false fun e => by
    simp [(unchanged_of_exec h).vovf e, hs] at ht
  obtain hc | ⟨vw, operands, g, o, he⟩ := vovf_writer_meaning s hf
  · exact hc
  · simp [vovf_kept_of_vecIntOverflow hk (he ▸ h) hs] at ht

/-- Only `ctvu` clears a bit of `vsat` (R38). -/
theorem ctvu_of_vsat_cleared (h : exec i s = .next t) {k : Nat} (hk : k < 32)
    (hs : s.vsat.getLsbD k = true) (ht : t.vsat.getLsbD k = false) : ∃ rt, i = .ctvu rt 12 := by
  have hf : (i.footprint s).vsat = true := Bool.eq_true_of_not_eq_false fun e => by
    simp [(unchanged_of_exec h).vsat e, hs] at ht
  obtain hc | ⟨vw, rd, operands, op, he⟩ := vsat_writer_meaning s hf
  · exact hc
  · simp [vsat_kept_of_vecFixed hk (he ▸ h) hs] at ht

/-- Settles O12: a register that changes is in the footprint, and the footprints name its writers. -/
theorem flagRegistersChangeOnlyAsStated : Obligations.FlagRegistersChangeOnlyAsStated := by
  intro s t i h
  have hu := unchanged_of_exec h
  exact ⟨fun hne => vlr_writers s (Bool.eq_true_of_not_eq_false fun e => hne (hu.vlr e)),
    fun hne => vcond_writers s (Bool.eq_true_of_not_eq_false fun e => hne (hu.vcond e)),
    fun _ hk hs ht => ctvu_of_vovf_cleared h hk hs ht,
    fun _ hk hs ht => ctvu_of_vsat_cleared h hk hs ht,
    fun hne => vovf_writers s (Bool.eq_true_of_not_eq_false fun e => hne (hu.vovf e)),
    fun hne => vsat_writers s (Bool.eq_true_of_not_eq_false fun e => hne (hu.vsat e))⟩

end Sys2Proof.Machine
end

section
/-! PROOFS. What a step keeps of the vector unit and of the launch state, and the elements from `vlr` on. -/

namespace Sys2Proof.Machine

variable {s t : State} {i : Instr}

/-! ## The vector state under scalar instructions -/

/-- The state of the vector unit: its registers and its control registers. -/
def State.vectorState (s : State) : Vector (Vector Word 32) 32 × Word × Byte × Word × Word × Word :=
  (s.vr, s.vcount, s.vlr, s.vcond, s.vovf, s.vsat)

theorem vectorState_eq_iff : t.vectorState = s.vectorState ↔ t.vr = s.vr ∧ t.vcount = s.vcount ∧
    t.vlr = s.vlr ∧ t.vcond = s.vcond ∧ t.vovf = s.vovf ∧ t.vsat = s.vsat := by
  simp [State.vectorState]

@[simp] theorem vectorState_branchStep (s : State) (likely taken : Bool) (a : Word) :
    (s.branchStep likely taken a).vectorState = s.vectorState := by
  cases taken <;> cases likely <;> rfl

@[simp] theorem vectorState_setQuotient (s : State) (byZero : Bool) (q r : Int) :
    (s.setQuotient byZero q r).vectorState = s.vectorState := by
  cases byZero <;> rfl

/-- No scalar instruction changes the state of the vector unit. -/
theorem vectorState_of_scalarMeaning (hm : ScalarMeaning s i) (h : exec i s = .next t) :
    t.vectorState = s.vectorState := by
  cases hm with
  | result rd w he | hiLoRead rd w he =>
    cases he.symm.trans h
    rfl
  | resultOrOverflow o rd w he =>
    cases o <;> cases he.symm.trans h <;> rfl
  | hiLo hi lo he =>
    obtain ⟨-, hn⟩ := next_of_hiLoGuard (he ▸ h)
    cases hn
    rfl
  | quotient byZero q r he =>
    obtain ⟨-, hn⟩ := next_of_hiLoGuard (he ▸ h)
    cases hn
    exact vectorState_setQuotient s byZero q r
  | load size ext rt a he | store size rt a he =>
    obtain ⟨c, info, rfl⟩ | ⟨-, hn⟩ := next_of_scalarAccess (he ▸ h)
    · rfl
    · cases hn
      rfl
  | partialLoad lanes rt he | partialStore lanes rt he =>
    obtain ⟨-, hn⟩ := grants_of_access s t _ _ (he ▸ h)
    cases hn
    rfl
  | loadLinked rt imm rs =>
    obtain ⟨c, info, rfl⟩ | ⟨new, w, rfl⟩ := next_of_execLl h
    · rfl
    · rfl
  | storeConditional rt imm rs =>
    obtain ⟨c, info, rfl⟩ | rfl | ⟨new, cells, -, rfl⟩ := next_of_execSc h
    · rfl
    · rfl
    · rfl
  | sync =>
    cases h
    rfl
  | branch likely taken imm he =>
    obtain rfl := next_of_condBranch (he ▸ h)
    exact vectorState_branchStep s likely taken _
  | branchLink likely taken rs imm he =>
    obtain rfl := next_of_condBranchLink (he ▸ h)
    exact vectorState_branchStep _ likely taken _
  | jump target he =>
    obtain rfl := next_of_jumpTo (he ▸ h)
    rfl
  | jumpLink target =>
    obtain rfl := next_of_jumpTo (linked := s.setX 31 s.linkAddr) h
    rfl
  | jumpLinkRegister rd rs =>
    obtain rfl := next_of_execJalr h
    rfl
  | trapIf c he =>
    cases c <;> cases he.symm.trans h <;> rfl
  | raise c info he =>
    cases he.symm.trans h
    rfl

/-! ## What a step keeps -/

/-- A step that answers a next state raised an exception, or ran the instruction that it fetched (R410). -/
theorem step_cases (h : step s = .next t) :
    (∃ c info, t = s.trapped c info) ∨
    ∃ i, s.trap = none ∧ s.pc.toNat % 4 = 0 ∧ s.fetchable = true ∧
      decodeBytes s.cfg.endian s.fetchBytes = .instr i ∧ exec i s = .next t := by
  unfold step fetchAndRun at h
  split_ifs at h with hr ha hf
  · cases h
    exact .inl ⟨_, _, rfl⟩
  cases hd : decodeBytes s.cfg.endian s.fetchBytes with
  | instr i =>
    rw [hd] at h
    exact .inr ⟨i, by simpa using hr, by simpa [aligned, Size.bytes] using ha, by simpa using hf, rfl, h⟩
  | cop2Reserved =>
    rw [hd, runDecoded] at h
    split_ifs at h <;> cases h <;> exact .inl ⟨_, _, rfl⟩
  | cop1 =>
    rw [hd, runDecoded] at h
    split_ifs at h
    cases h
    exact .inl ⟨_, _, rfl⟩
  | cop3 | reserved =>
    rw [hd] at h
    cases h
    exact .inl ⟨_, _, rfl⟩
  | cop0 | mustBeZero =>
    rw [hd] at h
    cases h

/-- With coprocessor 2 unusable no instruction changes the state of the vector unit (R452). -/
theorem vectorState_of_unusable (hc : s.cu2 = false) (h : exec i s = .next t) :
    t.vectorState = s.vectorState := by
  cases hv : i.isVu with
  | true =>
    cases (exec_of_unusable hv hc).symm.trans h
    rfl
  | false => exact vectorState_of_scalarMeaning (scalarMeaning_of_not_isVu s i hv) h

/-- Settles O13: an exception writes the trap record only, and an instruction keeps to its frame. -/
theorem unusableVectorUnitIsUntouched : Obligations.UnusableVectorUnitIsUntouched := by
  intro s t h
  obtain ⟨c, info, rfl⟩ | ⟨i, -, -, -, -, he⟩ := step_cases h
  · exact ⟨⟨rfl, rfl, rfl, rfl, rfl⟩, fun _ => ⟨rfl, rfl, rfl, rfl, rfl, rfl⟩⟩
  · have hu := unchanged_of_exec he
    exact ⟨⟨hu.cfg, hu.cu1, hu.cu2, hu.map, hu.text⟩,
      fun hc => vectorState_eq_iff.1 (vectorState_of_unusable hc he)⟩

/-! ## Elements from `vlr` on (R30) -/

/-- An element number at or above `MVL` reads as zero. -/
theorem State.v_of_le (s : State) (j : VReg) {k : Nat} (hk : 32 ≤ k) : s.v j k = 0 := by
  simp [State.v, Vector.getElem?_eq_none hk]

/-- An element that the predicate does not select keeps its value. -/
theorem State.v_setVWhere_of_not (s : State) (j q : VReg) (p : Nat → Bool) (f : Nat → Word) {k : Nat}
    (hp : p k = false) : (s.setVWhere j p f).v q k = s.v q k := by
  obtain hk | hk := Nat.lt_or_ge k 32
  · rw [State.v_setVWhere s j q p f k hk]
    by_cases hq : q = 0#5 <;> simp [hq, hp]
  · rw [State.v_of_le _ q hk, State.v_of_le _ q hk]

theorem State.v_setV_of_le (s : State) (j q : VReg) (n : Nat) (f : Nat → Word) {k : Nat} (hk : n ≤ k) :
    (s.setV j n f).v q k = s.v q k :=
  State.v_setVWhere_of_not s j q _ f (by simpa using hk)

/-- What a vector load or store that answers a next state has done: it raised, with the destination or the bytes
of a strided or indexed access left open, or its transfer ran. -/
theorem next_of_vecMem {vd : VReg} {kind : AccessKind} {mode : VecMode} {size : Size}
    {tr un : Nat → State → State} (h : vecMem i vd kind mode size tr un s = .next t) :
    (∃ c info, t = s.trapped c info) ∨ (∃ c info, t = (un s.vlr.toNat s).trapped c info) ∨
    ∃ new, t = ((tr s.vlr.toNat (s.recordAccess new)).postIncrement mode).advance := by
  have transferred : s.vecTransfer kind mode size s.vlr.toNat (tr s.vlr.toNat) = .next t →
      ∃ new, t = ((tr s.vlr.toNat (s.recordAccess new)).postIncrement mode).advance := fun hn => by
    cases (grants_of_access s t _ _ hn).2
    exact ⟨_, rfl⟩
  obtain ht | hn := next_of_vectorPrologue h
  · exact .inl ht
  cases mode with
  | unit rd rt =>
    simp only at hn
    split_ifs at hn
    · exact .inr (.inr (transferred hn))
    · cases hn
      exact .inl ⟨_, _, rfl⟩
  | strided rd rt | indexed rd vt =>
    simp only at hn
    split_ifs at hn
    · cases hn
      exact .inr (.inl ⟨_, _, rfl⟩)
    · exact .inr (.inr (transferred hn))

@[simp] theorem State.v_postIncrement (s : State) (mode : VecMode) (j : VReg) (k : Nat) :
    (s.postIncrement mode).v j k = s.v j k := by
  cases mode <;> rfl

/-- A vector load or store keeps the elements from `vlr` on. -/
theorem elements_kept_of_vectorAccess {m : VectorAccess} (hm : i.vectorAccess = some m)
    (h : exec i s = .next t) (j : VReg) {k : Nat} (hk : s.vlr.toNat ≤ k) : t.v j k = s.v j k := by
  obtain ⟨-, ext, he⟩ | ⟨-, he⟩ := exec_of_vectorAccess i m s hm
  · obtain ⟨c, info, rfl⟩ | ⟨c, info, rfl⟩ | ⟨new, rfl⟩ := next_of_vecMem (he ▸ h)
    · rfl
    · exact State.v_setV_of_le s m.vd j _ _ hk
    · rw [State.v_advance, State.v_postIncrement]
      exact State.v_setV_of_le (s.recordAccess new) m.vd j _ _ hk
  · obtain ⟨c, info, rfl⟩ | ⟨c, info, rfl⟩ | ⟨new, rfl⟩ := next_of_vecMem (he ▸ h)
    · rfl
    · rfl
    · rw [State.v_advance, State.v_postIncrement]
      rfl

/-- Settles O14: every family writes the elements below `vlr` only. -/
theorem elementsFromVlrAreKept : Obligations.ElementsFromVlrAreKept := by
  intro s t i j k hr h hk
  have hlt : decide (k < s.vlr.toNat) = false := decide_eq_false (by omega)
  cases vectorMeaning_of_isVu s i (isVu_of_runsOverVlr hr) with
  | readControl | writeControl | insertScalar | extractScalar => cases hr
  | extractVector vd vt rd =>
    obtain ⟨c, info, rfl⟩ | rfl | ⟨g, rfl⟩ := next_of_execVextV h
    · rfl
    · rfl
    · exact State.v_setV_of_le s vd j _ g hk
  | int vw operands g he =>
    obtain ⟨c, info, rfl⟩ | hn := next_of_vectorPrologue (he ▸ h)
    · rfl
    · cases hn
      exact State.v_setV_of_le s vw j _ _ hk
  | intOverflow vw operands g o he =>
    obtain ⟨c, info, rfl⟩ | hn := next_of_vectorPrologue (he ▸ h)
    · rfl
    · cases hn
      exact State.v_setV_of_le s vw j _ _ hk
  | flag operands p he =>
    obtain ⟨c, info, rfl⟩ | hn := next_of_vectorPrologue (he ▸ h)
    · rfl
    · cases hn
      rfl
  | move vw operands p he =>
    obtain ⟨c, info, rfl⟩ | hn := next_of_vectorPrologue (he ▸ h)
    · rfl
    · cases hn
      exact State.v_setVWhere_of_not s vw j _ _ (by rw [hlt, Bool.false_and])
  | fixed vw rd operands op he =>
    obtain ⟨c, info, rfl⟩ | ⟨out, draws, rfl⟩ := next_of_vecFixed (he ▸ h)
    · rfl
    · exact State.v_setVWhere_of_not s vw j _ _ (by rw [hlt, Bool.false_and])
  | access m ha => exact elements_kept_of_vectorAccess ha h j hk

end Sys2Proof.Machine
end

section
/-! PROOFS. Items in memory as numbers (R61 to R64), and `ll` and `sc` (R404, R405). -/

namespace Sys2Proof.Machine

variable {s t : State}

/-! ## Bytes as the digits of a number -/

/-- The digits of a list of bytes, as numbers below 256. -/
def byteDigits (l : List Byte) : List Nat := l.map BitVec.toNat

theorem ofDigits_byteDigits_lt (l : List Byte) : Nat.ofDigits 256 (byteDigits l) < 256 ^ l.length := by
  have h := Nat.ofDigits_lt_base_pow_length (b := 256) (l := byteDigits l) (by norm_num) fun d hd => by
    obtain ⟨b, -, rfl⟩ := List.mem_map.1 hd
    exact b.isLt
  simpa [byteDigits] using h

/-- At most four bytes, the first one most significant, as a number (R61, R62). -/
theorem toNat_joinBytesBig (l : List Byte) (hl : l.length ≤ 4) :
    (joinBytesBig l).toNat = Nat.ofDigits 256 (byteDigits l.reverse) := by
  induction l using List.reverseRecOn with
  | nil => rfl
  | append_singleton l b ih =>
    have hl' : l.length ≤ 3 := by
      rw [List.length_append, List.length_singleton] at hl
      omega
    have hi := ih (by omega)
    have hlt : (joinBytesBig l).toNat < 256 ^ 3 :=
      hi ▸ lt_of_lt_of_le (ofDigits_byteDigits_lt l.reverse)
        (Nat.pow_le_pow_right (by norm_num) (by simpa using hl'))
    have hs : (joinBytesBig l <<< 8).toNat = (joinBytesBig l).toNat <<< 8 := by
      rw [BitVec.toNat_shiftLeft, Nat.shiftLeft_eq]
      omega
    have hj : joinBytesBig (l ++ [b]) = (joinBytesBig l <<< 8) ||| b.setWidth 32 := by
      simp [joinBytesBig, List.foldl_append]
    rw [hj, BitVec.toNat_or, hs, BitVec.toNat_setWidth_of_le (by omega),
      ← Nat.shiftLeft_add_eq_or_of_lt b.isLt, hi, Nat.shiftLeft_eq]
    simp only [byteDigits, List.reverse_append, List.reverse_singleton, List.singleton_append, List.map_cons,
      Nat.ofDigits_cons]
    omega

/-- The bytes of a list that is laid out in a byte order, least significant first. -/
def leastFirst : Endian → List Byte → List Byte
  | .big, l => l.reverse
  | .little, l => l

/-- At most four bytes in a byte order, as a number. -/
theorem toNat_joinBytes (e : Endian) (l : List Byte) (hl : l.length ≤ 4) :
    (joinBytes e l).toNat = Nat.ofDigits 256 (byteDigits (leastFirst e l)) := by
  cases e with
  | big => exact toNat_joinBytesBig l hl
  | little =>
    have h := toNat_joinBytesBig l.reverse (by simpa using hl)
    rwa [List.reverse_reverse] at h

/-- The value of an item is the number of its bytes. -/
theorem itemNat_eq_ofDigits (e : Endian) (m : Memory) (a n : Nat) :
    itemNat e m a n =
      Nat.ofDigits 256 (byteDigits (leastFirst e ((List.range n).map fun k => m.read (a + k)))) := by
  induction n with
  | zero => cases e <;> rfl
  | succ n ih =>
    cases e with
    | big =>
      simp only [itemNat, ih, leastFirst, byteDigits, List.range_succ, List.map_append, List.reverse_append,
        List.map_cons, List.map_nil, List.reverse_singleton, List.singleton_append, Nat.ofDigits_cons]
      omega
    | little =>
      simp only [itemNat, ih, leastFirst, byteDigits, List.range_succ, List.map_append, List.map_cons,
        List.map_nil, Nat.ofDigits_append, Nat.ofDigits_singleton, List.length_map, List.length_range]
      ring

/-- The addresses of an item that does not wrap around. -/
theorem byteAddrs_of_no_wrap (a : Word) (n : Nat) (h : a.toNat + n ≤ 2 ^ 32) :
    byteAddrs a n = (List.range n).map fun k => a.toNat + k := by
  refine List.map_congr_left fun k hk => Nat.mod_eq_of_lt ?_
  have := List.mem_range.1 hk
  omega

/-- The value of an item, from the bytes at its addresses. -/
theorem itemNat_eq_of_bytes (e : Endian) (m : Memory) (a : Word) (n : Nat) (h : a.toNat + n ≤ 2 ^ 32) :
    itemNat e m a.toNat n = Nat.ofDigits 256 (byteDigits (leastFirst e ((byteAddrs a n).map m.read))) := by
  rw [itemNat_eq_ofDigits, byteAddrs_of_no_wrap a n h, List.map_map]
  rfl

/-- `MemRead` reads the value of the item (R62). -/
theorem toNat_memRead (s : State) (a : Word) (n : Nat) (hn : n ≤ 4) (h : a.toNat + n ≤ 2 ^ 32) :
    (s.memRead a n).toNat = itemNat s.cfg.endian s.mem a.toNat n := by
  rw [State.memRead, toNat_joinBytes _ _ (by simpa using hn), itemNat_eq_of_bytes _ _ a n h]

/-! ## A stored item -/

theorem splitBytes_big (n : Nat) (v : Word) : splitBytes .big n v = (splitBytes .little n v).reverse := by
  refine List.ext_getElem (by simp) fun k h1 h2 => ?_
  simp [splitBytes]

theorem leastFirst_splitBytes (e : Endian) (n : Nat) (v : Word) :
    leastFirst e (splitBytes e n v) = splitBytes .little n v := by
  cases e with
  | big => rw [leastFirst, splitBytes_big, List.reverse_reverse]
  | little => rfl

/-- The low bytes of a word are the digits of its value. -/
theorem ofDigits_splitBytes (n : Nat) (v : Word) :
    Nat.ofDigits 256 (byteDigits (splitBytes .little n v)) = v.toNat % 256 ^ n := by
  induction n with
  | zero => simp [splitBytes, byteDigits, Nat.mod_one]
  | succ n ih =>
    have hs : splitBytes .little (n + 1) v = splitBytes .little n v ++ [v.extractLsb' (8 * n) 8] := by
      simp [splitBytes, List.range_succ]
    have hd : (v.extractLsb' (8 * n) 8).toNat = v.toNat / 256 ^ n % 256 := by
      rw [BitVec.extractLsb'_toNat, Nat.shiftRight_eq_div_pow, pow_mul]
      norm_num
    rw [hs, byteDigits, List.map_append, Nat.ofDigits_append, Nat.mod_pow_succ, ← hd, ← ih]
    simp [byteDigits]

/-- Every address of a stored item reads its byte of the value. -/
theorem map_read_storeCells (m : Memory) (hm : m.wf = true) (e : Endian) (a : Word) (n : Nat) (v : Word)
    (hn : n ≤ 2 ^ 32) :
    (byteAddrs a n).map (m.writeAll (storeCells e a n v)).read = splitBytes e n v := by
  have hr : ∀ c ∈ storeCells e a n v, (m.writeAll (storeCells e a n v)).read c.1 = c.2 := fun c hc =>
    Memory.read_writeAll_mem m _ c hm hc
      (fun d hd => byteAddrs_lt a n d.1 (mem_byteAddrs_of_storeCells e a n v d hd))
      (by rw [map_fst_storeCells]; exact nodup_byteAddrs a n hn)
  calc (byteAddrs a n).map (m.writeAll (storeCells e a n v)).read
      = (storeCells e a n v).map fun c => (m.writeAll (storeCells e a n v)).read c.1 := by
        rw [← map_fst_storeCells e a n v, List.map_map]
        rfl
    _ = (storeCells e a n v).map Prod.snd := List.map_congr_left hr
    _ = splitBytes e n v := List.map_snd_zip (by simp)

/-- A stored item has the value of the low bytes of the word (R63). -/
theorem itemNat_storeCells (m : Memory) (hm : m.wf = true) (e : Endian) (a : Word) (n : Nat) (v : Word)
    (h : a.toNat + n ≤ 2 ^ 32) :
    itemNat e (m.writeAll (storeCells e a n v)) a.toNat n = v.toNat % 256 ^ n := by
  rw [itemNat_eq_of_bytes _ _ a n h, map_read_storeCells m hm e a n v (by omega), leastFirst_splitBytes,
    ofDigits_splitBytes]

/-! ## A loaded item -/

theorem itemNat_lt (e : Endian) (m : Memory) (a n : Nat) : itemNat e m a n < 256 ^ n := by
  rw [itemNat_eq_ofDigits]
  refine lt_of_lt_of_eq (ofDigits_byteDigits_lt _) ?_
  cases e <;> simp [leastFirst]

/-- The sign extension of the low `k` bits of a word that holds no others. -/
theorem signExtend_setWidth (w : Word) (k : Nat) (hw : w.toNat < 2 ^ k) :
    (w.setWidth k).signExtend 32 =
      trunc32 (if 2 * w.toNat < 2 ^ k then (w.toNat : Int) else (w.toNat : Int) - 2 ^ k) := by
  rw [BitVec.signExtend, BitVec.toInt_eq_toNat_cond, BitVec.toNat_setWidth, Nat.mod_eq_of_lt hw]
  push_cast
  rfl

/-- A load gives the register the extended value of the item (R64). -/
theorem extendLoaded_memRead (s : State) (ext : Extension) (size : Size) (a : Word)
    (h : a.toNat + size.bytes ≤ 2 ^ 32) :
    extendLoaded ext size (s.memRead a size.bytes) = itemWord ext s.cfg.endian s.mem a.toNat size := by
  have hn := toNat_memRead s a size.bytes (by cases size <;> decide) h
  have hlt := itemNat_lt s.cfg.endian s.mem a.toNat size.bytes
  rw [← hn] at hlt
  simp only [itemWord, ← hn]
  cases ext with
  | zero => cases size <;> simp [extendLoaded]
  | sign =>
    cases size with
    | byte => exact signExtend_setWidth _ 8 hlt
    | half => exact signExtend_setWidth _ 16 hlt
    | word =>
      have hw : extendLoaded .sign .word (s.memRead a 4) = ((s.memRead a 4).setWidth 32).signExtend 32 := by
        simp [extendLoaded]
      exact hw.trans (signExtend_setWidth _ 32 hlt)

/-! ## `ll` and `sc` -/

/-- An aligned item does not wrap around. -/
theorem no_wrap_of_aligned {size : Size} {a : Word} (h : aligned size a = true) :
    a.toNat + size.bytes ≤ 2 ^ 32 := by
  have ha : a.toNat % size.bytes = 0 := by simpa [aligned] using h
  have := a.isLt
  cases size <;> simp only [Size.bytes] at ha ⊢ <;> omega

/-- An aligned and granted scalar access runs its transfer (R391). -/
theorem scalarAccess_of_grants {kind : AccessKind} {size : Size} {a : Word} (k : State → Result)
    (ha : aligned size a = true) (hg : Grants s ⟨.scalar, kind, byteAddrs a size.bytes⟩) :
    scalarAccess kind size a k s = k (s.recordAccess ⟨.scalar, kind, byteAddrs a size.bytes⟩) := by
  simp only [scalarAccess, if_pos ha, access_of_grants s _ k hg]

theorem exec_ll (s : State) (rt : Reg) (imm : BitVec 16) (rs : Reg) :
    exec (.ll rt imm rs) s = execLl rt imm rs s := rfl

theorem exec_sc (s : State) (rt : Reg) (imm : BitVec 16) (rs : Reg) :
    exec (.sc rt imm rs) s = execSc rt imm rs s := rfl

/-- A granted `ll` loads the word and links its address (R404). -/
theorem completes_ll {rt : Reg} {imm : BitVec 16} {rs : Reg} (ha : aligned .word (s.scalarAddr rs imm) = true)
    (hg : Grants s ⟨.scalar, .read, byteAddrs (s.scalarAddr rs imm) 4⟩) :
    Completes (.ll rt imm rs) s fun t =>
      (t.x rt = if rt = 0 then 0
        else itemWord .sign s.cfg.endian s.mem (s.scalarAddr rs imm).toNat .word) ∧
      t.llBit = true ∧ t.llAddr = s.scalarAddr rs imm := by
  have he := (exec_ll s rt imm rs).trans (scalarAccess_of_grants _ ha hg)
  refine ⟨_, he, rfl, ⟨rfl, rfl, rfl⟩, unchanged_of_exec he, ?_, rfl, rfl⟩
  rw [← extendLoaded_memRead s .sign .word _ (no_wrap_of_aligned ha)]
  exact State.x_setX_same _ rt _

/-- A granted `sc` to the linked address stores the word, writes 1 and clears the link bit (R405). -/
theorem completes_sc_linked {rt : Reg} {imm : BitVec 16} {rs : Reg} (hm : s.mem.wf = true)
    (ha : aligned .word (s.scalarAddr rs imm) = true) (hb : s.llBit = true)
    (hl : s.llAddr = s.scalarAddr rs imm)
    (hg : Grants s ⟨.scalar, .write, byteAddrs (s.scalarAddr rs imm) 4⟩) :
    Completes (.sc rt imm rs) s fun t =>
      itemNat s.cfg.endian t.mem (s.scalarAddr rs imm).toNat 4 = (s.x rt).toNat ∧
      (t.x rt = if rt = 0 then 0 else 1) ∧ t.llBit = false := by
  have he := exec_sc s rt imm rs
  simp only [execSc, ha, hb, hl, access_of_grants s _ _ hg, Bool.not_true, Bool.false_eq_true, if_false,
    bne_self_eq_false] at he
  refine ⟨_, he, rfl, ⟨rfl, rfl, rfl⟩, unchanged_of_exec he, ?_, State.x_setX_same _ rt 1, rfl⟩
  have hx := itemNat_storeCells s.mem hm s.cfg.endian _ 4 (s.x rt) (no_wrap_of_aligned ha)
  exact hx.trans (Nat.mod_eq_of_lt (s.x rt).isLt)

/-- An `sc` without a link writes 0 and touches no memory (R405). -/
theorem completes_sc_unlinked {rt : Reg} {imm : BitVec 16} {rs : Reg}
    (ha : aligned .word (s.scalarAddr rs imm) = true) (hb : s.llBit = false) :
    Completes (.sc rt imm rs) s fun t =>
      t.x rt = 0 ∧ t.llBit = false ∧ t.mem = s.mem ∧ t.unsynced = s.unsynced := by
  have he := exec_sc s rt imm rs
  simp only [execSc, ha, hb, Bool.not_true, Bool.not_false, Bool.false_eq_true, if_false, if_true] at he
  refine ⟨_, he, rfl, ⟨rfl, rfl, rfl⟩, unchanged_of_exec he, ?_, rfl, rfl, rfl⟩
  exact (State.x_setX_same s rt 0).trans (ite_self _)

/-- An `sc` to another address than the linked one is refused (R405). -/
theorem exec_sc_mismatch {rt : Reg} {imm : BitVec 16} {rs : Reg}
    (ha : aligned .word (s.scalarAddr rs imm) = true) (hb : s.llBit = true)
    (hl : s.llAddr ≠ s.scalarAddr rs imm) :
    exec (.sc rt imm rs) s = .refused .scAddressMismatch := by
  simp [exec_sc, execSc, ha, hb, hl.symm]

/-- Settles O32: one lemma for `ll` and one for each case of `sc`. -/
theorem loadLinkedStoreConditional : Obligations.LoadLinkedStoreConditional := by
  intro s rt rs imm
  rw [trunc32_add_imm]
  intro a h
  have ha : aligned .word (s.scalarAddr rs imm) = true := beq_iff_eq.2 h
  exact ⟨completes_ll ha, fun hm hb hl hg => completes_sc_linked hm ha hb hl hg, completes_sc_unlinked ha,
    exec_sc_mismatch ha⟩

end Sys2Proof.Machine
end

section
/-! PROOFS. Decoding is the inverse of encoding (O2): the bytes of a word in memory give the word back, and the
decoder reads every field of the word that the encoder builds. -/

namespace Sys2Proof

open Machine

/-! ## A word and its bytes -/

/-- The bytes of a word, joined in the order in which they were split, are the word (R61 to R63). -/
theorem joinBytes_splitBytes (e : Endian) (w : Word) : joinBytes e (splitBytes e 4 w) = w := by
  apply BitVec.eq_of_toNat_eq
  rw [toNat_joinBytes e _ (by simp), leastFirst_splitBytes, ofDigits_splitBytes]
  exact Nat.mod_eq_of_lt w.isLt

/-! ## The class of a word, by its format -/

theorem decodeWord_vWord (format t r : BitVec 5) (opers : BitVec 1) (vw vd : BitVec 5) :
    decodeWord (vWord format t r opers vw vd) = decodeCop2 (vWord format t r opers vw vd) := by
  simp [decodeWord]

theorem decodeWord_rWord (rs rt rd sa : BitVec 5) (funct : BitVec 6) :
    decodeWord (rWord rs rt rd sa funct) = decodeSpecial (rWord rs rt rd sa funct) := by
  simp [decodeWord]

theorem decodeWord_trapWord (rs rt : BitVec 5) (code : BitVec 10) (funct : BitVec 6) :
    decodeWord (trapWord rs rt code funct) = decodeSpecial (trapWord rs rt code funct) := by
  simp [decodeWord]

theorem decodeWord_codeWord (code : BitVec 20) (funct : BitVec 6) :
    decodeWord (codeWord code funct) = decodeSpecial (codeWord code funct) := by
  simp [decodeWord]

theorem decodeWord_regimm (rs rt : BitVec 5) (imm : BitVec 16) :
    decodeWord (iWord 0b000001#6 rs rt imm) = decodeRegimm (iWord 0b000001#6 rs rt imm) := by
  simp [decodeWord]

/-! ## Every instruction -/

/-- The word of an instruction decodes to it: one group for each format of the encoder. -/
theorem decodeWord_encode (i : Instr) : decodeWord (encode i) = .instr i := by
  cases i with
  | cfvu | ctvu | vextV | vinsS | vextS | fxaddVV | fxsubVV | fxmulVV =>
    simp [encode, decodeWord_vWord, decodeCop2, Decoded.ifOpers0]
  | fxaddVS | fxaddSV | fxsubVS | fxsubSV | fxmulVS | fxmulSV =>
    simp [encode, decodeWord_vWord, decodeCop2, Decoded.byOpers]
  | lbxV | lhxV | lwxV | lbuxV | lhuxV | sbxV | shxV | swxV =>
    simp [encode, decodeWord_vWord, decodeCop2, decodeMemIndexed, Decoded.ifOpers0]
  | lbaiV | lhaiV | lwaiV | lbuaiV | lhuaiV | sbaiV | shaiV | swaiV | lbstV | lhstV | lwstV | lbustV | lhustV
  | sbstV | shstV | swstV =>
    simp [encode, decodeWord_vWord, decodeCop2, decodeMemScalar, Decoded.ifOpers0]
  | andVV | orVV | xorVV | norVV | addVV | adduVV | subVV | subuVV | sllvVV | sravVV | srlvVV | sltVV | sltuVV
  | seqVV | cmvnezVV | cmvgezVV | cmvlezVV | cmveqzVV | cmvltzVV | cmvgtzVV | fltVV | fltuVV | feqVV =>
    simp [encode, decodeWord_vWord, decodeCop2, decodeIntVV, Decoded.ifOpers0, Decoded.ifNoVw]
  | andVS | orVS | xorVS | norVS | addVS | adduVS | subVS | subSV | subuVS | subuSV | sllvVS | sllvSV | sravVS
  | sravSV | srlvVS | srlvSV | sltVS | sltSV | sltuVS | sltuSV | seqVS | cmvnezVS | cmvgezVS | cmvlezVS
  | cmveqzVS | cmvltzVS | cmvgtzVS | fltVS | fltSV | fltuVS | fltuSV | feqVS =>
    simp [encode, decodeWord_vWord, decodeCop2, decodeIntVS, Decoded.byOpers, Decoded.ifOpers0, Decoded.ifNoVw]
  | add | addu | sub | subu | and | or | xor | nor | slt | sltu | sll | srl | sra | sllv | srlv | srav | mult
  | multu | div | divu | mfhi | mthi | mflo | mtlo | sync | jr | jalr =>
    simp [encode, decodeWord_rWord, decodeSpecial, Decoded.ifZero]
  | tge | tgeu | tlt | tltu | teq | tne =>
    simp [encode, decodeWord_trapWord, decodeSpecial]
  | syscall | brk =>
    simp [encode, decodeWord_codeWord, decodeSpecial]
  | bltz | bgez | bltzal | bgezal | bltzl | bgezl | bltzall | bgezall | tgei | tgeiu | tlti | tltiu | teqi | tnei =>
    simp [encode, decodeWord_regimm, decodeRegimm]
  | addi | addiu | slti | sltiu | andi | ori | xori | lb | lbu | lh | lhu | lw | lwl | lwr | sb | sh | sw | swl
  | swr | ll | sc | beq | bne | beql | bnel | j | jal =>
    simp [encode, decodeWord]
  | lui | blez | bgtz | blezl | bgtzl =>
    simp [encode, decodeWord, Decoded.ifZero]

/-- Settles O2: joining the bytes gives the word of the encoder, which decodes to its instruction. -/
theorem decodeOfEncode : Obligations.DecodeOfEncode := by
  intro e i
  rw [decodeBytes, joinBytes_splitBytes, decodeWord_encode]

end Sys2Proof
end

section
/-! PROOFS. A word that decodes to an instruction is its encoding, and what the step fetches (O7, O8). -/

namespace Sys2Proof

open Machine

variable {w : Word} {i j k : Instr}

/-! ## A word, from its fields -/

/-- A word with opcode SPECIAL is the word of its fields. -/
theorem rWord_fields (h : opcodeField w = 0#6) :
    rWord (rsField w) (rtField w) (rdField w) (saField w) (functField w) = w := by
  rw [rWord, ← h]
  apply BitVec.eq_of_getLsbD_eq
  intro k hk
  simp only [opcodeField, rsField, rtField, rdField, saField, functField, BitVec.getLsbD_append,
    BitVec.getLsbD_extractLsb']
  interval_cases k <;> simp

theorem trapWord_fields (h : opcodeField w = 0#6) :
    trapWord (rsField w) (rtField w) (code10Field w) (functField w) = w := by
  rw [trapWord, ← h]
  apply BitVec.eq_of_getLsbD_eq
  intro k hk
  simp only [opcodeField, rsField, rtField, code10Field, functField, BitVec.getLsbD_append,
    BitVec.getLsbD_extractLsb']
  interval_cases k <;> simp

theorem codeWord_fields (h : opcodeField w = 0#6) : codeWord (code20Field w) (functField w) = w := by
  rw [codeWord, ← h]
  apply BitVec.eq_of_getLsbD_eq
  intro k hk
  simp only [opcodeField, code20Field, functField, BitVec.getLsbD_append, BitVec.getLsbD_extractLsb']
  interval_cases k <;> simp

theorem iWord_fields (w : Word) : iWord (opcodeField w) (rsField w) (rtField w) (immField w) = w := by
  rw [iWord]
  apply BitVec.eq_of_getLsbD_eq
  intro k hk
  simp only [opcodeField, rsField, rtField, immField, BitVec.getLsbD_append, BitVec.getLsbD_extractLsb']
  interval_cases k <;> simp

theorem jWord_fields (w : Word) : jWord (opcodeField w) (targetField w) = w := by
  rw [jWord]
  apply BitVec.eq_of_getLsbD_eq
  intro k hk
  simp only [opcodeField, targetField, BitVec.getLsbD_append, BitVec.getLsbD_extractLsb']
  interval_cases k <;> simp

theorem vWord_fields (h : opcodeField w = 0b010010#6) :
    vWord (rsField w) (rtField w) (rdField w) (opersField w) (vwField w) (vdField w) = w := by
  rw [vWord, ← h]
  apply BitVec.eq_of_getLsbD_eq
  intro k hk
  simp only [opcodeField, rsField, rtField, rdField, opersField, vwField, vdField, BitVec.getLsbD_append,
    BitVec.getLsbD_extractLsb']
  interval_cases k <;> simp

/-- The fields of the low eleven bits of a coprocessor-2 word are those of their value (R91). -/
theorem low11_fields (h : w.extractLsb' 0 11 = 0) :
    opersField w = 0#1 ∧ vwField w = 0#5 ∧ vdField w = 0#5 := by
  have hb : ∀ n < 11, w.getLsbD n = false := fun n hn => by
    simpa [hn] using congrArg (BitVec.getLsbD · n) h
  have hf : ∀ start len, start + len ≤ 11 → w.extractLsb' start len = 0#len := fun start len hl => by
    apply BitVec.eq_of_getLsbD_eq
    intro n hn
    simp [hb (start + n) (by omega)]
  exact ⟨hf 10 1 (by decide), hf 5 5 (by decide), hf 0 5 (by decide)⟩

/-! ## What the tests of the decoder let through -/

theorem encode_of_instr (h : Decoded.instr j = .instr i) (hj : encode j = w) : encode i = w := by
  cases h
  exact hj

theorem encode_of_ifZero {z : Bool} (h : Decoded.ifZero z j = .instr i) (hj : z = true → encode j = w) :
    encode i = w := by
  cases z with
  | true => exact encode_of_instr h (hj rfl)
  | false => cases h

theorem encode_of_ifOpers0 (h : Decoded.ifOpers0 w j = .instr i) (hj : opersField w = 0#1 → encode j = w) :
    encode i = w := by
  unfold Decoded.ifOpers0 at h
  split_ifs at h with ho
  exact encode_of_instr h (hj ho)

theorem encode_of_byOpers (h : Decoded.byOpers w j k = .instr i) (hj : opersField w = 0#1 → encode j = w)
    (hk : opersField w = 1#1 → encode k = w) : encode i = w := by
  have h01 : ∀ b : BitVec 1, b ≠ 0 → b = 1 := by decide
  unfold Decoded.byOpers at h
  split_ifs at h with ho
  · exact encode_of_instr h (hj ho)
  · exact encode_of_instr h (hk (h01 _ ho))

theorem next_of_ifNoVw {d : Decoded} (h : Decoded.ifNoVw w d = .instr i) : vwField w = 0#5 ∧ d = .instr i := by
  unfold Decoded.ifNoVw at h
  split_ifs at h with hw
  exact ⟨hw, h⟩

/-! ## Every class of words -/

theorem encode_of_decodeSpecial (h0 : opcodeField w = 0#6) (h : decodeSpecial w = .instr i) : encode i = w := by
  have hr := rWord_fields h0
  have ht := trapWord_fields h0
  have hc := codeWord_fields h0
  unfold decodeSpecial at h
  dsimp only at h
  split at h <;> rename_i hf
  case h_9 | h_10 => exact encode_of_instr h (by simpa only [encode, hf] using hc)
  case h_30 | h_31 | h_32 | h_33 | h_34 | h_35 => exact encode_of_instr h (by simpa only [encode, hf] using ht)
  case h_36 => cases h
  all_goals
    refine encode_of_ifZero h fun hz => ?_
    simp only [Bool.and_eq_true, beq_iff_eq, BitVec.ofNat_eq_ofNat] at hz
    simpa only [encode, hz, hf] using hr

theorem encode_of_decodeRegimm (h0 : opcodeField w = 1#6) (h : decodeRegimm w = .instr i) : encode i = w := by
  have hi := iWord_fields w
  unfold decodeRegimm at h
  dsimp only at h
  split at h <;> rename_i hf
  case h_15 => cases h
  all_goals exact encode_of_instr h (by simpa only [encode, h0, hf] using hi)

theorem encode_of_decodeMemIndexed (h0 : opcodeField w = 0b010010#6) (hs : rsField w = 0b10010#5)
    (h : decodeMemIndexed w = .instr i) : encode i = w := by
  have hv := vWord_fields h0
  unfold decodeMemIndexed at h
  dsimp only at h
  split at h <;> rename_i hf
  case h_9 => cases h
  all_goals exact encode_of_ifOpers0 h fun ho => by simpa only [encode, hs, hf, ho] using hv

theorem encode_of_decodeMemScalar (h0 : opcodeField w = 0b010010#6) (hs : rsField w = 0b10011#5)
    (h : decodeMemScalar w = .instr i) : encode i = w := by
  have hv := vWord_fields h0
  unfold decodeMemScalar at h
  dsimp only at h
  split at h <;> rename_i hf
  case h_17 => cases h
  all_goals exact encode_of_ifOpers0 h fun ho => by simpa only [encode, hs, hf, ho] using hv

theorem encode_of_decodeIntVV (h0 : opcodeField w = 0b010010#6) (hs : rsField w = 0b10100#5)
    (h : decodeIntVV w = .instr i) : encode i = w := by
  have hv := vWord_fields h0
  unfold decodeIntVV at h
  dsimp only at h
  split at h <;> rename_i hf
  case h_24 => cases h
  case h_3 | h_4 | h_5 =>
    obtain ⟨hw, hn⟩ := next_of_ifNoVw h
    exact encode_of_ifOpers0 hn fun ho => by simpa only [encode, hs, hf, ho, hw] using hv
  all_goals exact encode_of_ifOpers0 h fun ho => by simpa only [encode, hs, hf, ho] using hv

theorem encode_of_decodeIntVS (h0 : opcodeField w = 0b010010#6) (hs : rsField w = 0b10101#5)
    (h : decodeIntVS w = .instr i) : encode i = w := by
  have hv := vWord_fields h0
  unfold decodeIntVS at h
  dsimp only at h
  split at h <;> rename_i hf
  case h_24 => cases h
  case h_3 | h_4 =>
    obtain ⟨hw, hn⟩ := next_of_ifNoVw h
    exact encode_of_byOpers hn (fun ho => by simpa only [encode, hs, hf, ho, hw] using hv)
      fun ho => by simpa only [encode, hs, hf, ho, hw] using hv
  case h_5 =>
    obtain ⟨hw, hn⟩ := next_of_ifNoVw h
    exact encode_of_ifOpers0 hn fun ho => by simpa only [encode, hs, hf, ho, hw] using hv
  case h_1 | h_2 | h_6 | h_7 | h_8 | h_9 | h_10 =>
    exact encode_of_byOpers h (fun ho => by simpa only [encode, hs, hf, ho] using hv)
      fun ho => by simpa only [encode, hs, hf, ho] using hv
  all_goals exact encode_of_ifOpers0 h fun ho => by simpa only [encode, hs, hf, ho] using hv

theorem encode_of_decodeCop2 (h0 : opcodeField w = 0b010010#6) (h : decodeCop2 w = .instr i) : encode i = w := by
  have hv := vWord_fields h0
  unfold decodeCop2 at h
  dsimp only at h
  split at h <;> rename_i hs
  case h_1 | h_2 =>
    split_ifs at h with hl
    obtain ⟨ho, hw, hd⟩ := low11_fields hl
    exact encode_of_instr h (by simpa only [encode, hs, ho, hw, hd] using hv)
  case h_3 =>
    split at h <;> rename_i hf
    case h_1 => exact encode_of_ifOpers0 h fun ho => by simpa only [encode, hs, hf, ho] using hv
    all_goals cases h
  case h_4 =>
    split at h <;> rename_i hf
    case h_3 => cases h
    all_goals exact encode_of_ifOpers0 h fun ho => by simpa only [encode, hs, hf, ho] using hv
  case h_5 => exact encode_of_decodeMemIndexed h0 hs h
  case h_6 => exact encode_of_decodeMemScalar h0 hs h
  case h_7 => exact encode_of_decodeIntVV h0 hs h
  case h_8 => exact encode_of_decodeIntVS h0 hs h
  case h_9 | h_11 | h_13 => exact encode_of_ifOpers0 h fun ho => by simpa only [encode, hs, ho] using hv
  case h_10 | h_12 | h_14 =>
    exact encode_of_byOpers h (fun ho => by simpa only [encode, hs, ho] using hv)
      fun ho => by simpa only [encode, hs, ho] using hv
  case h_15 => cases h

/-- A word that decodes to an instruction is the word of that instruction (R101, R334). -/
theorem encode_of_decodeWord (h : decodeWord w = .instr i) : encode i = w := by
  have hi := iWord_fields w
  have hj := jWord_fields w
  unfold decodeWord at h
  dsimp only at h
  split at h <;> rename_i ho
  case h_1 => exact encode_of_decodeSpecial ho h
  case h_2 => exact encode_of_decodeRegimm ho h
  case h_3 | h_4 => exact encode_of_instr h (by simpa only [encode, ho] using hj)
  case h_7 | h_8 | h_16 | h_23 | h_24 =>
    refine encode_of_ifZero h fun hz => ?_
    simp only [beq_iff_eq, BitVec.ofNat_eq_ofNat] at hz
    simpa only [encode, ho, hz] using hi
  case h_19 => exact encode_of_decodeCop2 ho h
  case h_17 | h_18 | h_20 | h_38 | h_39 | h_40 | h_41 | h_42 | h_43 | h_45 | h_46 | h_47 | h_48 | h_49 | h_50
    | h_51 => cases h
  all_goals exact encode_of_instr h (by simpa only [encode, ho] using hi)

end Sys2Proof

namespace Sys2Proof.Machine

variable {s : State}

/-! ## The fetch (R410) -/

/-- The instruction that the decoder reads at `pc` is the one whose encoding is fetched. -/
theorem fetches_of_decodeBytes {i : Instr} (hr : s.trap = none) (ha : s.pc.toNat % 4 = 0)
    (hf : s.fetchable = true) (hd : decodeBytes s.cfg.endian s.fetchBytes = .instr i) : Fetches s (encode i) :=
  ⟨hr, ha, hf, (encode_of_decodeWord hd).symm⟩

theorem step_of_trap {r : Trap} (h : s.trap = some r) : step s = .fault .runEnded := by
  simp [step, fetchAndRun, h]

theorem step_of_misaligned (hr : s.trap = none) (ha : s.pc.toNat % 4 ≠ 0) :
    step s = s.raise .addressErrorLoad (.address s.pc) := by
  simp [step, fetchAndRun, hr, aligned, Size.bytes, ha]

theorem step_of_not_fetchable (hr : s.trap = none) (ha : s.pc.toNat % 4 = 0) (hf : s.fetchable = false) :
    step s = .fault .outsideText := by
  simp [step, fetchAndRun, hr, aligned, Size.bytes, ha, hf]

/-- Settles O7: the three ways in which a step runs nothing. -/
theorem stepWithoutInstruction : Obligations.StepWithoutInstruction := fun _ =>
  ⟨fun _ => step_of_trap, step_of_misaligned, step_of_not_fetchable⟩

/-! ## A word placed at `pc` (R491) -/

theorem withFetchWord_toNat (s : State) (w : Word) : s.withFetchWord 32 w.toNat = s.loadWordAtPc w := by
  rw [State.withFetchWord, Nat.mod_eq_of_lt w.isLt, BitVec.ofNat_toNat, BitVec.setWidth_eq]

/-- The bytes of an aligned word at `pc` are in the text that is placed there. -/
theorem fetchable_loadWordAtPc (w : Word) (ha : s.pc.toNat % 4 = 0)
    (hx : ∀ a ∈ byteAddrs s.pc 4, s.executable a = true) : (s.loadWordAtPc w).fetchable = true := by
  refine List.all_eq_true.2 fun a h => ?_
  have hi : (s.loadWordAtPc w).inText a = true := by
    have hb : a ∈ byteAddrs s.pc 4 := h
    rw [byteAddrs_of_no_wrap s.pc 4 (by have := s.pc.isLt; omega)] at hb
    obtain ⟨k, hk, rfl⟩ := List.mem_map.1 hb
    simp [State.inText, State.loadWordAtPc, List.mem_range.1 hk]
  rw [hi, Bool.true_and]
  exact hx a h

/-- The word placed at `pc` is read back in either byte order. -/
theorem fetchedWord_loadWordAtPc (w : Word) (hm : s.mem.wf = true) : (s.loadWordAtPc w).fetchedWord = w := by
  have h := map_read_storeCells s.mem hm s.cfg.endian s.pc 4 w (by norm_num)
  calc (s.loadWordAtPc w).fetchedWord
      = joinBytes s.cfg.endian
          ((byteAddrs s.pc 4).map (s.mem.writeAll (storeCells s.cfg.endian s.pc 4 w)).read) := rfl
    _ = w := by rw [h, joinBytes_splitBytes]

/-- Settles O8: the placed bytes are text, and they read back as the word. -/
theorem placedInstructionIsFetched : Obligations.PlacedInstructionIsFetched := by
  intro s i hm hr ha hx
  rw [withFetchWord_toNat]
  exact ⟨hr, ha, fetchable_loadWordAtPc _ ha hx, fetchedWord_loadWordAtPc _ hm⟩

end Sys2Proof.Machine
end

section
/-! PROOFS. How an instruction that answers a next state has ended: it raised an exception, or left open what R82
leaves open, or completed, with the access that it made. The invariant (O10), who changes memory (O11), precise
exceptions (O15), the frames of loads and stores (O18, O20) and the ordering discipline (O33) follow. -/

namespace Sys2Proof.Machine

variable {s t u : State} {i : Instr} {new : AccessRecord}

/-! ## The access of an instruction (R73) -/

/-- The memory access that an instruction has made between two states: none, or a granted one, which is recorded
and whose cells, if it stores, lie at its own bytes. -/
inductive Accessed (i : Instr) (s t : State) : Prop where
  | none (hn : i.memoryAccess s = .none) (mem : t.mem = s.mem)
      (order : t.unsynced = s.unsynced ∨ t.unsynced = [])
  | made (new : AccessRecord) (cells : List Host.Cell) (hn : i.memoryAccess s = some new) (granted : Grants s new)
      (stored : ∀ c ∈ cells, new.kind = .write ∧ c.1 ∈ new.bytes) (mem : t.mem = s.mem.writeAll cells)
      (order : t.unsynced = (s.recordAccess new).unsynced)

/-- The instruction ran to its end. -/
structure Completed (i : Instr) (s t : State) : Prop where
  trap : t.trap = s.trap
  sequential : t.inDelaySlot = false → t.npc = t.pc + 4
  hiLoCount : t.sinceHiLo ≤ 2
  accessed : Accessed i s t

/-- How an instruction that answers a next state has ended. -/
inductive Ending (i : Instr) (s t : State) : Prop where
  | raised (c : Cause) (info : TrapInfo) (ht : t = s.trapped c info)
  | openLoad (m : VectorAccess) (hm : i.vectorAccess = some m) (hk : m.kind = .read)
      (hu : m.mode.incremented = []) (info : TrapInfo)
      (ht : t = (s.freeElements m.vd s.vlr.toNat).trapped .vectorAddress info)
  | openStore (m : VectorAccess) (hm : i.vectorAccess = some m) (hk : m.kind = .write)
      (hu : m.mode.incremented = []) (info : TrapInfo)
      (ht : t = (s.freeBytes m.vd m.mode m.size s.vlr.toNat).trapped .vectorAddress info)
  | completed (h : Completed i s t)

theorem tickHiLo_le (n : Nat) : tickHiLo n ≤ 2 := by
  unfold tickHiLo
  split_ifs <;> omega

theorem completed_advance (ht : u.trap = s.trap) (ha : Accessed i s u) : Completed i s u.advance where
  trap := ht
  sequential _ := rfl
  hiLoCount := tickHiLo_le u.sinceHiLo
  accessed := match ha with
    | .none hn mem order => .none hn mem order
    | .made new cells hn granted stored mem order => .made new cells hn granted stored mem order

/-! ## Instructions that access no memory -/

theorem memoryAccess_of_not_isMemory (s : State) (h : i.isMemory = false) : i.memoryAccess s = none := by
  cases i with
  | lbaiV | lhaiV | lwaiV | lbuaiV | lhuaiV | lbxV | lhxV | lwxV | lbuxV | lhuxV | lbstV | lhstV | lwstV | lbustV
  | lhustV | sbaiV | shaiV | swaiV | sbxV | shxV | swxV | sbstV | shstV | swstV | lb | lbu | lh | lhu | lw | lwl
  | lwr | sb | sh | sw | swl | swr | ll | sc => cases h
  | _ => rfl

/-- Among the instructions that access no memory only `sync` touches the list of R73. -/
theorem order_of_not_isMemory (s : State) (h : i.isMemory = false) (hs : i ≠ .sync) :
    (i.footprint s).order = false := by
  cases i with
  | sync => exact absurd rfl hs
  | lbaiV | lhaiV | lwaiV | lbuaiV | lhuaiV | lbxV | lhxV | lwxV | lbuxV | lhuxV | lbstV | lhstV | lwstV | lbustV
  | lhustV | sbaiV | shaiV | swaiV | sbxV | shxV | swxV | sbstV | shstV | swstV | lb | lbu | lh | lhu | lw | lwl
  | lwr | sb | sh | sw | swl | swr | ll | sc => cases h
  | _ => rfl

/-- The memory, the list of accesses and the trap record of a state. -/
def State.memoryState (s : State) : Memory × List AccessRecord × Option Trap := (s.mem, s.unsynced, s.trap)

theorem accessed_of_memoryState (hi : i.isMemory = false) (hu : u.memoryState = s.memoryState) :
    Accessed i s u := by
  simp only [State.memoryState, Prod.mk.injEq] at hu
  exact .none (memoryAccess_of_not_isMemory s hi) hu.1 (.inl hu.2.1)

theorem trap_of_memoryState (hu : u.memoryState = s.memoryState) : u.trap = s.trap := by
  simp only [State.memoryState, Prod.mk.injEq] at hu
  exact hu.2.2

/-- A sequential instruction that leaves the memory state as it is. -/
theorem ending_advance (hi : i.isMemory = false) (hu : u.memoryState = s.memoryState) :
    Ending i s u.advance :=
  .completed (completed_advance (trap_of_memoryState hu) (accessed_of_memoryState hi hu))

theorem memoryState_branchStep (s : State) (likely taken : Bool) (a : Word) :
    (s.branchStep likely taken a).memoryState = s.memoryState := by
  cases taken <;> cases likely <;> rfl

theorem memoryState_setQuotient (s : State) (byZero : Bool) (q r : Int) :
    (s.setQuotient byZero q r).memoryState = s.memoryState := by
  cases byZero <;> rfl

theorem ending_branchTo (hi : i.isMemory = false) (hu : u.memoryState = s.memoryState) (a : Word) :
    Ending i s (u.branchTo a) :=
  .completed ⟨trap_of_memoryState hu, fun h => (by cases h), tickHiLo_le _, accessed_of_memoryState hi hu⟩

/-- A conditional branch: taken, its delay slot comes next; not taken, the program counters are sequential. -/
theorem ending_branchStep (hi : i.isMemory = false) (hu : u.memoryState = s.memoryState) (likely taken : Bool)
    (a : Word) : Ending i s (u.branchStep likely taken a) := by
  have hb := (memoryState_branchStep u likely taken a).trans hu
  refine .completed ⟨trap_of_memoryState hb, ?_, ?_, accessed_of_memoryState hi hb⟩
  · cases taken with
    | true => intro h; cases h
    | false =>
      cases likely with
      | false => exact fun _ => rfl
      | true =>
        intro _
        show u.npc + 8 = u.npc + 4 + 4
        rw [BitVec.add_assoc]
        rfl
  · cases taken <;> cases likely <;> exact tickHiLo_le _

/-- How a scalar instruction that accesses no memory ends. -/
theorem ending_of_scalarMeaning (hm : ScalarMeaning s i) (hi : i.isMemory = false) (hs : i ≠ .sync)
    (h : exec i s = .next t) : Ending i s t := by
  have ho := order_of_not_isMemory s hi hs
  cases hm with
  | result rd w he =>
    cases he.symm.trans h
    exact ending_advance hi rfl
  | resultOrOverflow o rd w he =>
    cases o with
    | true =>
      cases he.symm.trans h
      exact .raised _ _ rfl
    | false =>
      cases he.symm.trans h
      exact ending_advance hi rfl
  | hiLo hi' lo he =>
    obtain ⟨-, hn⟩ := next_of_hiLoGuard (he ▸ h)
    cases hn
    exact ending_advance hi rfl
  | quotient byZero q r he =>
    obtain ⟨-, hn⟩ := next_of_hiLoGuard (he ▸ h)
    cases hn
    exact ending_advance hi (memoryState_setQuotient s byZero q r)
  | hiLoRead rd w he =>
    cases he.symm.trans h
    exact .completed ⟨rfl, fun _ => rfl, Nat.zero_le 2, accessed_of_memoryState hi rfl⟩
  | load _ _ _ _ _ hf | store _ _ _ _ hf | partialLoad _ _ _ hf | partialStore _ _ _ hf =>
    rw [hf] at ho
    cases ho
  | loadLinked | storeConditional => cases hi
  | sync => exact absurd rfl hs
  | branch likely taken imm he =>
    obtain rfl := next_of_condBranch (he ▸ h)
    exact ending_branchStep hi rfl likely taken _
  | branchLink likely taken rs imm he =>
    obtain rfl := next_of_condBranchLink (he ▸ h)
    exact ending_branchStep (s := s) (u := s.setX 31 s.linkAddr) hi rfl likely taken _
  | jump target he =>
    obtain rfl := next_of_jumpTo (he ▸ h)
    exact ending_branchTo hi rfl _
  | jumpLink target =>
    obtain rfl := next_of_jumpTo (linked := s.setX 31 s.linkAddr) h
    exact ending_branchTo (s := s) (u := s.setX 31 s.linkAddr) hi rfl _
  | jumpLinkRegister rd rs =>
    obtain rfl := next_of_execJalr h
    exact ending_branchTo (s := s) (u := s.setX rd s.linkAddr) hi rfl _
  | trapIf c he =>
    cases c with
    | true =>
      cases he.symm.trans h
      exact .raised _ _ rfl
    | false =>
      cases he.symm.trans h
      exact ending_advance hi rfl
  | raise c info he =>
    cases he.symm.trans h
    exact .raised _ _ rfl

theorem ending_sync (h : exec .sync s = .next t) : Ending .sync s t := by
  cases h
  exact .completed (completed_advance rfl (.none rfl rfl (.inr rfl)))

/-- What a `vins.s` or `vext.s` that answers a next state has done: its prologue raised, or its rule answered. -/
theorem next_of_elementPrologue {vd : VReg} {rd : Reg} {k : Nat → Result}
    (h : s.elementPrologue i vd rd k = .next t) :
    (∃ c info, t = s.trapped c info) ∨ k (s.elementIndex rd) = .next t := by
  obtain e | e | ⟨-, e⟩ | ⟨-, -, -, e⟩ := elementPrologue_cases s i vd rd k <;> rw [e] at h
  · cases h
    exact .inl ⟨_, _, rfl⟩
  · cases h
    exact .inl ⟨_, _, rfl⟩
  · cases h
    exact .inl ⟨_, _, rfl⟩
  · exact .inr h

/-- How an instruction of the vector unit that accesses no memory ends. -/
theorem ending_of_vectorMeaning (hm : VectorMeaning s i) (hi : i.isMemory = false) (h : exec i s = .next t) :
    Ending i s t := by
  cases hm with
  | readControl rt cs =>
    obtain rfl | ⟨-, rfl⟩ | ⟨w, rfl⟩ := next_of_execCfvu h
    · exact .raised _ _ rfl
    · exact ending_advance hi rfl
    · exact ending_advance hi rfl
  | writeControl rt cs =>
    obtain rfl | ⟨-, rfl⟩ | ⟨-, rfl⟩ | ⟨-, rfl⟩ | ⟨-, rfl⟩ := next_of_execCtvu h
    · exact .raised _ _ rfl
    all_goals exact ending_advance hi rfl
  | extractVector vd vt rd =>
    obtain ⟨c, info, rfl⟩ | rfl | ⟨g, rfl⟩ := next_of_execVextV h
    · exact .raised c info rfl
    · exact ending_advance hi rfl
    · exact ending_advance hi rfl
  | insertScalar rt vd rd =>
    rw [exec_vinsS] at h
    obtain ⟨c, info, rfl⟩ | hn := next_of_elementPrologue h
    · exact .raised c info rfl
    · cases hn
      exact ending_advance hi rfl
  | extractScalar rt vd rd =>
    rw [exec_vextS] at h
    obtain ⟨c, info, rfl⟩ | hn := next_of_elementPrologue h
    · exact .raised c info rfl
    · cases hn
      exact ending_advance hi rfl
  | int _ _ _ he | intOverflow _ _ _ _ he | flag _ _ he | move _ _ _ he =>
    obtain ⟨c, info, rfl⟩ | hn := next_of_vectorPrologue (he ▸ h)
    · exact .raised c info rfl
    · cases hn
      exact ending_advance hi rfl
  | fixed vw rd operands op he =>
    obtain ⟨c, info, rfl⟩ | ⟨out, draws, rfl⟩ := next_of_vecFixed (he ▸ h)
    · exact .raised c info rfl
    · exact ending_advance hi rfl
  | access m ha => exact absurd (isMemory_of_vectorAccess ha) (by simp [hi])

/-! ## Instructions that access memory -/

/-- What a load or store does in a state: the shared operation that it runs, with the access that it makes. -/
inductive MemoryMeaning (s : State) : Instr → Prop where
  | load {i : Instr} (size : Size) (ext : Extension) (rt : Reg) (a : Word)
      (he : exec i s = scalarLoad size ext rt a s)
      (hn : i.memoryAccess s = some ⟨.scalar, .read, byteAddrs a size.bytes⟩) : MemoryMeaning s i
  | store {i : Instr} (size : Size) (rt : Reg) (a : Word) (he : exec i s = scalarStore size rt a s)
      (hn : i.memoryAccess s = some ⟨.scalar, .write, byteAddrs a size.bytes⟩) : MemoryMeaning s i
  | partialLoad {i : Instr} (lanes : List (Nat × Nat)) (rt : Reg) (he : exec i s = loadLanes lanes rt s)
      (hn : i.memoryAccess s = some ⟨.scalar, .read, lanes.map fun l => l.1⟩) : MemoryMeaning s i
  | partialStore {i : Instr} (lanes : List (Nat × Nat)) (rt : Reg) (he : exec i s = storeLanes lanes rt s)
      (hn : i.memoryAccess s = some ⟨.scalar, .write, lanes.map fun l => l.1⟩) : MemoryMeaning s i
  | loadLinked (rt : Reg) (imm : BitVec 16) (rs : Reg) : MemoryMeaning s (.ll rt imm rs)
  | storeConditional (rt : Reg) (imm : BitVec 16) (rs : Reg) : MemoryMeaning s (.sc rt imm rs)
  | vector {i : Instr} (m : VectorAccess) (hm : i.vectorAccess = some m) : MemoryMeaning s i

theorem memoryMeaning_of_isMemory (s : State) (h : i.isMemory = true) : MemoryMeaning s i := by
  cases i with
  | lb rt imm rs | lh rt imm rs | lw rt imm rs => exact .load _ .sign rt _ rfl rfl
  | lbu rt imm rs | lhu rt imm rs => exact .load _ .zero rt _ rfl rfl
  | sb rt imm rs | sh rt imm rs | sw rt imm rs => exact .store _ rt _ rfl rfl
  | lwl rt imm rs | lwr rt imm rs => exact .partialLoad _ rt rfl rfl
  | swl rt imm rs | swr rt imm rs => exact .partialStore _ rt rfl rfl
  | ll rt imm rs => exact .loadLinked rt imm rs
  | sc rt imm rs => exact .storeConditional rt imm rs
  | lbaiV | lhaiV | lwaiV | lbuaiV | lhuaiV | lbxV | lhxV | lwxV | lbuxV | lhuxV | lbstV | lhstV | lwstV
  | lbustV | lhustV | sbaiV | shaiV | swaiV | sbxV | shxV | swxV | sbstV | shstV | swstV =>
    exact .vector _ rfl
  | _ => cases h

theorem memoryAccess_of_vectorAccess (s : State) {m : VectorAccess} (hm : i.vectorAccess = some m) :
    i.memoryAccess s = some ⟨.vector, m.kind, s.elementBytes m.mode m.size s.vlr.toNat⟩ := by
  cases i <;> cases hm <;> rfl

/-- A granted access that transfers nothing to memory. -/
theorem ending_read (hn : i.memoryAccess s = some new) (hg : Grants s new)
    (hu : u.memoryState = (s.recordAccess new).memoryState) : Ending i s u.advance := by
  simp only [State.memoryState, Prod.mk.injEq] at hu
  obtain ⟨hmem, horder, htrap⟩ := hu
  exact .completed (completed_advance htrap (.made new [] hn hg (fun c hc => (by cases hc)) hmem horder))

/-- A granted access that stores cells at its own bytes. -/
theorem ending_write {cells : List Host.Cell} (hn : i.memoryAccess s = some new) (hg : Grants s new)
    (hk : new.kind = .write) (hc : ∀ c ∈ cells, c.1 ∈ new.bytes)
    (hu : u.memoryState = ((s.recordAccess new).writeCells cells).memoryState) : Ending i s u.advance := by
  simp only [State.memoryState, Prod.mk.injEq] at hu
  obtain ⟨hmem, horder, htrap⟩ := hu
  exact .completed (completed_advance htrap (.made new cells hn hg (fun c h => ⟨hk, hc c h⟩) hmem horder))

/-- What a vector load or store that answers a next state has done: it raised; or a strided or indexed access raised
Vector address and left its `unspecified` state; or it was granted and transferred. -/
theorem next_of_vecMem_granted {vd : VReg} {kind : AccessKind} {mode : VecMode} {size : Size}
    {tr un : Nat → State → State} (h : vecMem i vd kind mode size tr un s = .next t) :
    (∃ c info, t = s.trapped c info) ∨
    (mode.incremented = [] ∧ ∃ info, t = (un s.vlr.toNat s).trapped .vectorAddress info) ∨
    (Grants s ⟨.vector, kind, s.elementBytes mode size s.vlr.toNat⟩ ∧
      t = ((tr s.vlr.toNat (s.recordAccess ⟨.vector, kind, s.elementBytes mode size s.vlr.toNat⟩)).postIncrement
        mode).advance) := by
  have transferred (hn : s.vecTransfer kind mode size s.vlr.toNat (tr s.vlr.toNat) = .next t) :
      Grants s ⟨.vector, kind, s.elementBytes mode size s.vlr.toNat⟩ ∧
      t = ((tr s.vlr.toNat (s.recordAccess ⟨.vector, kind, s.elementBytes mode size s.vlr.toNat⟩)).postIncrement
        mode).advance := by
    obtain ⟨hg, hn⟩ := grants_of_access s t _ _ hn
    cases hn
    exact ⟨hg, rfl⟩
  obtain ht | hn := next_of_vectorPrologue h
  · exact .inl ht
  cases mode with
  | unit rd rt =>
    simp only at hn
    split_ifs at hn
    · exact .inr (.inr (transferred hn))
    · cases hn
      exact .inl ⟨_, _, rfl⟩
  | strided rd rt | indexed rd vt =>
    simp only at hn
    split_ifs at hn
    · cases hn
      exact .inr (.inl ⟨rfl, _, rfl⟩)
    · exact .inr (.inr (transferred hn))

theorem memoryState_postIncrement (s : State) (mode : VecMode) :
    (s.postIncrement mode).memoryState = s.memoryState := by
  cases mode <;> rfl

theorem ending_of_vectorAccess {m : VectorAccess} (hm : i.vectorAccess = some m) (h : exec i s = .next t) :
    Ending i s t := by
  have hn := memoryAccess_of_vectorAccess s hm
  obtain ⟨hk, ext, he⟩ | ⟨hk, he⟩ := exec_of_vectorAccess i m s hm
  · obtain ⟨c, info, rfl⟩ | ⟨hu, info, rfl⟩ | ⟨hg, rfl⟩ := next_of_vecMem_granted (he ▸ h)
    · exact .raised c info rfl
    · exact .openLoad m hm hk hu info rfl
    · exact ending_read (hk ▸ hn) hg (memoryState_postIncrement _ m.mode)
  · obtain ⟨c, info, rfl⟩ | ⟨hu, info, rfl⟩ | ⟨hg, rfl⟩ := next_of_vecMem_granted (he ▸ h)
    · exact .raised c info rfl
    · exact .openStore m hm hk hu info rfl
    · exact ending_write (hk ▸ hn) hg rfl
        (fun c hc => mem_elementBytes_of_resolveCells s m.vd m.mode m.size _ c hc)
        (memoryState_postIncrement _ m.mode)

/-- An `sc` raised, or failed without a link, or was granted and stored. -/
theorem ending_sc {rt : Reg} {imm : BitVec 16} {rs : Reg} (h : exec (.sc rt imm rs) s = .next t) :
    Ending (.sc rt imm rs) s t := by
  rw [exec_sc, execSc] at h
  split_ifs at h with ha hb hl
  · cases h
    exact .raised _ _ rfl
  · cases h
    refine .completed (completed_advance rfl (.none ?_ rfl (.inl rfl)))
    have hb' : s.llBit = false := by simpa using hb
    simp [Instr.memoryAccess, hb']
  · obtain ⟨hg, hn⟩ := grants_of_access s t _ _ h
    cases hn
    refine ending_write ?_ hg rfl (fun c hc => mem_byteAddrs_of_storeCells _ _ _ _ c hc) rfl
    have hb' : s.llBit = true := by simpa using hb
    simp [Instr.memoryAccess, hb']

theorem ending_of_memoryMeaning (hm : MemoryMeaning s i) (h : exec i s = .next t) : Ending i s t := by
  cases hm with
  | load size ext rt a he hn =>
    obtain ⟨c, info, rfl⟩ | ⟨hg, hx⟩ := next_of_scalarAccess (he ▸ h)
    · exact .raised c info rfl
    · cases hx
      exact ending_read hn hg rfl
  | store size rt a he hn =>
    obtain ⟨c, info, rfl⟩ | ⟨hg, hx⟩ := next_of_scalarAccess (he ▸ h)
    · exact .raised c info rfl
    · cases hx
      exact ending_write hn hg rfl (fun c hc => mem_byteAddrs_of_storeCells _ _ _ _ c hc) rfl
  | partialLoad lanes rt he hn =>
    obtain ⟨hg, hx⟩ := grants_of_access s t _ _ (he ▸ h)
    cases hx
    exact ending_read hn hg rfl
  | partialStore lanes rt he hn =>
    obtain ⟨hg, hx⟩ := grants_of_access s t _ _ (he ▸ h)
    cases hx
    refine ending_write hn hg rfl (fun c hc => ?_) rfl
    obtain ⟨l, hl, rfl⟩ := List.mem_map.1 hc
    exact List.mem_map_of_mem hl
  | loadLinked rt imm rs =>
    rw [exec_ll] at h
    obtain ⟨c, info, rfl⟩ | ⟨hg, hx⟩ := next_of_scalarAccess h
    · exact .raised c info rfl
    · cases hx
      exact ending_read rfl hg rfl
  | storeConditional rt imm rs => exact ending_sc h
  | vector m hm => exact ending_of_vectorAccess hm h

/-- How any instruction that answers a next state has ended. -/
theorem ending_of_exec (h : exec i s = .next t) : Ending i s t := by
  by_cases hs : i = .sync
  · subst hs
    exact ending_sync h
  cases hi : i.isMemory with
  | true => exact ending_of_memoryMeaning (memoryMeaning_of_isMemory s hi) h
  | false =>
    cases hv : i.isVu with
    | true => exact ending_of_vectorMeaning (vectorMeaning_of_isVu s i hv) hi h
    | false => exact ending_of_scalarMeaning (scalarMeaning_of_not_isVu s i hv) hi hs h

end Sys2Proof.Machine
end

section
/-! PROOFS. What every step keeps: the invariant (O10), memory outside stores (O11), everything outside what an
exception leaves open (O15), the frames of loads and stores (O18, O20), and the ordering discipline (O33). -/

namespace Sys2Proof.Machine

variable {s t u : State} {i : Instr} {new : AccessRecord}

/-! ## Addresses are 32 bits wide (R62) -/

theorem elementBytes_lt {mode : VecMode} {size : Size} {n a : Nat} (h : a ∈ s.elementBytes mode size n) :
    a < 2 ^ 32 := by
  obtain ⟨k, -, hk⟩ := List.mem_flatMap.1 h
  exact byteAddrs_lt _ _ a hk

/-- The lanes of a partial word access stay inside the aligned word. -/
theorem leftLanes_lt {e : Endian} {w : Word} {a : Nat} (h : a ∈ (leftLanes e w).map fun l => l.1) : a < 2 ^ 32 := by
  have hw := w.isLt
  cases e with
  | big | little =>
    simp only [leftLanes, List.map_map, List.mem_map, List.mem_range, Function.comp] at h
    obtain ⟨k, hk, rfl⟩ := h
    omega

theorem rightLanes_lt {e : Endian} {w : Word} {a : Nat} (h : a ∈ (rightLanes e w).map fun l => l.1) : a < 2 ^ 32 := by
  have hw := w.isLt
  cases e with
  | big | little =>
    simp only [rightLanes, List.map_map, List.mem_map, List.mem_range, Function.comp] at h
    obtain ⟨k, hk, rfl⟩ := h
    omega

/-- Every access is to bytes of the 32-bit space. -/
theorem memoryAccess_lt (hn : i.memoryAccess s = some new) {a : Nat} (ha : a ∈ new.bytes) : a < 2 ^ 32 := by
  cases i with
  | lb | lbu | lh | lhu | lw | ll | sb | sh | sw =>
    cases hn
    exact byteAddrs_lt _ _ a ha
  | sc rt imm rs =>
    simp only [Instr.memoryAccess, Option.ite_none_right_eq_some, Option.some.injEq] at hn
    obtain ⟨-, rfl⟩ := hn
    exact byteAddrs_lt _ _ a ha
  | lwl | swl =>
    cases hn
    exact leftLanes_lt ha
  | lwr | swr =>
    cases hn
    exact rightLanes_lt ha
  | lbaiV | lhaiV | lwaiV | lbuaiV | lhuaiV | lbxV | lhxV | lwxV | lbuxV | lhuxV | lbstV | lhstV | lwstV
  | lbustV | lhustV | sbaiV | shaiV | swaiV | sbxV | shxV | swxV | sbstV | shstV | swstV =>
    cases hn
    exact elementBytes_lt ha
  | _ => cases hn

/-! ## What a faulting store leaves open (R82) -/

/-- A cell that a faulting store may have written lies at an aligned element, is writable and is no program text. -/
theorem mem_reachableCells {vd : VReg} {mode : VecMode} {size : Size} {n : Nat} {c : Host.Cell}
    (hc : c ∈ s.reachableCells vd mode size n) :
    ∃ k < n, aligned size (s.elementAddr mode size k) = true ∧
      c.1 ∈ byteAddrs (s.elementAddr mode size k) size.bytes ∧ s.mapped .write c.1 = true ∧
      s.inText c.1 = false := by
  obtain ⟨k, hk, hc⟩ := List.mem_flatMap.1 hc
  obtain ⟨hk, ha⟩ := List.mem_filter.1 hk
  obtain ⟨hc, hp⟩ := List.mem_filter.1 hc
  rw [Bool.and_eq_true, Bool.not_eq_true'] at hp
  exact ⟨k, List.mem_range.1 hk, ha, mem_byteAddrs_of_storeCells _ _ _ _ c hc, hp.1, hp.2⟩

/-- The memory that a faulting store leaves: cells at reachable addresses are written. -/
theorem mem_freeBytes (s : State) (vd : VReg) (mode : VecMode) (size : Size) (n : Nat) :
    ∃ cells : List Host.Cell, (s.freeBytes vd mode size n).mem = s.mem.writeAll cells ∧
      ∀ c ∈ cells, ∃ d ∈ s.reachableCells vd mode size n, c.1 = d.1 := by
  refine ⟨_, rfl, fun c hc => ?_⟩
  obtain ⟨k, hk, rfl⟩ := List.mem_mapIdx.1 hc
  exact ⟨_, List.getElem_mem hk, rfl⟩

/-! ## The invariant (O10) -/

theorem State.Inv.raise (h : s.Inv) (c : Cause) (info : TrapInfo) : (s.trapped c info).Inv where
  memory := h.memory
  sequential := h.sequential
  hiLoCount := h.hiLoCount
  ordered := h.ordered
  unordered := h.unordered
  trapped r hr := by
    cases hr
    exact ⟨rfl, rfl⟩

theorem State.Inv.freeElements (h : s.Inv) (vd : VReg) (n : Nat) : (s.freeElements vd n).Inv :=
  ⟨h.memory, h.sequential, h.hiLoCount, h.ordered, h.unordered, h.trapped⟩

theorem State.Inv.freeBytes (h : s.Inv) (vd : VReg) (mode : VecMode) (size : Size) (n : Nat) :
    (s.freeBytes vd mode size n).Inv where
  memory := by
    obtain ⟨cells, hm, hc⟩ := mem_freeBytes s vd mode size n
    rw [hm]
    refine Memory.wf_writeAll s.mem cells (fun c h => ?_) h.memory
    obtain ⟨d, hd, e⟩ := hc c h
    obtain ⟨k, -, -, hb, -⟩ := mem_reachableCells hd
    exact e ▸ byteAddrs_lt _ _ d.1 hb
  sequential := h.sequential
  hiLoCount := h.hiLoCount
  ordered := h.ordered
  unordered := h.unordered
  trapped := h.trapped

theorem unsynced_recordAccess (s : State) (new : AccessRecord) :
    (s.recordAccess new).unsynced = if s.cfg.syncRequired then s.unsynced ++ [new] else s.unsynced := rfl

/-- A granted access conflicts with none of the list, so the list stays free of conflicts (R73). -/
theorem pairwise_recordAccess (hg : Grants s new)
    (h : s.unsynced.Pairwise fun old new => old.conflicts new = false) :
    (s.recordAccess new).unsynced.Pairwise fun old new => old.conflicts new = false := by
  rw [unsynced_recordAccess]
  split_ifs with hs
  · refine List.pairwise_append.2 ⟨h, List.pairwise_singleton _ _, fun old ho n hn => ?_⟩
    rw [List.mem_singleton.1 hn]
    have hc := hg.ordered
    simp only [State.unsyncedConflict, hs, Bool.true_and, List.any_eq_false, Bool.not_eq_true] at hc
    exact hc old ho
  · exact h

theorem State.Inv.memory_of_accessed (h : s.Inv) (ha : Accessed i s t) : t.mem.wf = true := by
  cases ha with
  | none _ hm =>
    rw [hm]
    exact h.memory
  | made new cells hn _ hc hm =>
    rw [hm]
    exact Memory.wf_writeAll s.mem cells (fun c hd => memoryAccess_lt hn (hc c hd).2) h.memory

theorem State.Inv.ordered_of_accessed (h : s.Inv) (ha : Accessed i s t) :
    t.unsynced.Pairwise fun old new => old.conflicts new = false := by
  cases ha with
  | none _ _ ho =>
    obtain ho | ho := ho <;> rw [ho]
    · exact h.ordered
    · exact List.Pairwise.nil
  | made new _ _ hg _ _ ho =>
    rw [ho]
    exact pairwise_recordAccess hg h.ordered

theorem State.Inv.unordered_of_accessed (h : s.Inv) (ha : Accessed i s t) (hs : s.cfg.syncRequired = false) :
    t.unsynced = [] := by
  cases ha with
  | none _ _ ho => exact ho.elim (fun e => e.trans (h.unordered hs)) id
  | made new _ _ _ _ _ ho => rw [ho, unsynced_recordAccess, hs, if_neg Bool.false_ne_true, h.unordered hs]

theorem State.Inv.completed (h : s.Inv) (hr : s.trap = none) (hu : Unchanged (i.footprint s) s t)
    (hc : Completed i s t) : t.Inv where
  memory := h.memory_of_accessed hc.accessed
  sequential := hc.sequential
  hiLoCount := hc.hiLoCount
  ordered := h.ordered_of_accessed hc.accessed
  unordered hs := h.unordered_of_accessed hc.accessed (hu.cfg ▸ hs)
  trapped r ht := by
    rw [hc.trap, hr] at ht
    cases ht

/-- Settles O10: each way in which a step ends keeps the invariant. -/
theorem stepKeepsInvariant : Obligations.StepKeepsInvariant := by
  intro s t h hs
  obtain ⟨c, info, rfl⟩ | ⟨i, hr, -, -, -, he⟩ := step_cases hs
  · exact h.raise c info
  cases ending_of_exec he with
  | raised c info ht => exact ht ▸ h.raise c info
  | openLoad m _ _ _ info ht => exact ht ▸ (h.freeElements m.vd _).raise _ info
  | openStore m _ _ _ info ht => exact ht ▸ (h.freeBytes m.vd m.mode m.size _).raise _ info
  | completed hc => exact h.completed hr (unchanged_of_exec he) hc

/-! ## Who changes memory (O11) -/

/-- A byte that an instruction changes may be written, and is no program text. -/
theorem writable_of_changed (h : exec i s = .next t) {a : Nat} (ha : t.mem.read a ≠ s.mem.read a) :
    s.mapped .write a = true ∧ s.inText a = false := by
  have written : ∀ cells : List Host.Cell, t.mem = s.mem.writeAll cells → ∃ c ∈ cells, c.1 = a :=
    fun cells hm => by
      by_contra hc
      push Not at hc
      exact ha (hm ▸ Memory.read_writeAll_other s.mem cells a hc)
  cases ending_of_exec h with
  | raised c info ht => exact absurd (by rw [ht]; rfl) ha
  | openLoad m _ _ _ info ht => exact absurd (by rw [ht]; rfl) ha
  | openStore m _ _ _ info ht =>
    obtain ⟨cells, hm, hc⟩ := mem_freeBytes s m.vd m.mode m.size s.vlr.toNat
    obtain ⟨c, hd, rfl⟩ := written cells (by rw [ht]; exact hm)
    obtain ⟨d, hd, e⟩ := hc c hd
    obtain ⟨k, -, -, -, hw, hx⟩ := mem_reachableCells hd
    exact e ▸ ⟨hw, hx⟩
  | completed hc =>
    cases hc.accessed with
    | none _ hm => exact absurd (by rw [hm]) ha
    | made new cells _ hg hs hm =>
      obtain ⟨c, hd, rfl⟩ := written cells hm
      obtain ⟨hk, hb⟩ := hs c hd
      exact ⟨hk ▸ hg.mapped c.1 hb, hg.notText hk c.1 hb⟩

/-- Settles O11: the frame names the bytes, and the access was granted. -/
theorem onlyStoresChangeMemory : Obligations.OnlyStoresChangeMemory := by
  intro s t a hs ha
  obtain ⟨c, info, rfl⟩ | ⟨i, hr, hp, hf, hd, he⟩ := step_cases hs
  · exact absurd rfl ha
  have hb : a ∈ (i.footprint s).bytes := by
    by_contra hn
    exact ha ((unchanged_of_exec he).mem a hn)
  exact ⟨i, fetches_of_decodeBytes hr hp hf hd, hb, writable_of_changed he ha⟩

/-! ## Exceptions are precise (O15) -/

theorem leavesOpen_of_read {m : VectorAccess} (hu : m.mode.incremented = []) (hk : m.kind = .read) :
    m.leavesOpen s = { vregs := [m.vd] } := by
  obtain ⟨kind, vd, mode, size⟩ := m
  subst hk
  cases mode with
  | unit => cases hu
  | strided | indexed => rfl

/-- The cells of a faulting store are among the bytes that R82 leaves open. -/
theorem mem_leavesOpen_of_reachableCells {m : VectorAccess} (hu : m.mode.incremented = []) (hk : m.kind = .write)
    {c : Host.Cell} (hc : c ∈ s.reachableCells m.vd m.mode m.size s.vlr.toNat) :
    c.1 ∈ (m.leavesOpen s).bytes := by
  obtain ⟨k, hlt, ha, hb, hw, hx⟩ := mem_reachableCells hc
  have hmem : c.1 ∈ (((List.range s.vlr.toNat).filter fun k => aligned m.size (s.elementAddr m.mode m.size k)).flatMap
      fun k => byteAddrs (s.elementAddr m.mode m.size k) m.size.bytes).filter
        fun a => s.mapped .write a && !s.inText a :=
    List.mem_filter.2 ⟨List.mem_flatMap.2 ⟨k, List.mem_filter.2 ⟨List.mem_range.2 hlt, ha⟩, hb⟩, by simp [hw, hx]⟩
  obtain ⟨kind, vd, mode, size⟩ := m
  subst hk
  cases mode with
  | unit => cases hu
  | strided | indexed => exact hmem

theorem unchanged_openLoad {m : VectorAccess} (hu : m.mode.incremented = []) (hk : m.kind = .read)
    (c : Cause) (info : TrapInfo) :
    Unchanged (m.leavesOpen s) s ((s.freeElements m.vd s.vlr.toNat).trapped c info) := by
  rw [leavesOpen_of_read hu hk]
  exact (((unchanged_refl _ s).setV m.vd _ _ (List.mem_singleton_self m.vd)).drawn _).trans
    (unchanged_trapped _ _ c info)

theorem unchanged_openStore {m : VectorAccess} (hu : m.mode.incremented = []) (hk : m.kind = .write)
    (c : Cause) (info : TrapInfo) :
    Unchanged (m.leavesOpen s) s ((s.freeBytes m.vd m.mode m.size s.vlr.toNat).trapped c info) := by
  refine (((unchanged_refl _ s).writeCells _ fun c hc => ?_).drawn _).trans (unchanged_trapped _ _ c info)
  obtain ⟨k, hk', rfl⟩ := List.mem_mapIdx.1 hc
  exact mem_leavesOpen_of_reachableCells hu hk (c := (s.reachableCells m.vd m.mode m.size s.vlr.toNat)[k])
    (List.getElem_mem hk')

/-- What an exception keeps even when it leaves something open: the program counter, the count of R503, the list of
accesses. -/
def State.control (s : State) : Word × Word × Bool × Nat × List AccessRecord :=
  (s.pc, s.npc, s.inDelaySlot, s.sinceHiLo, s.unsynced)

theorem control_eq_iff : u.control = s.control ↔ u.pc = s.pc ∧ u.npc = s.npc ∧ u.inDelaySlot = s.inDelaySlot ∧
    u.sinceHiLo = s.sinceHiLo ∧ u.unsynced = s.unsynced := by
  simp [State.control]

/-- An exception raised with the control state of `s` names the instruction of `s` (R470). -/
theorem precise_of_trapped {c : Cause} {info : TrapInfo} {r : Trap} (hc : u.control = s.control)
    (h : (u.trapped c info).trap = some r) :
    r.cause = c ∧ r.epc = (if s.inDelaySlot then s.pc - 4 else s.pc) ∧ r.bd = s.inDelaySlot ∧
    (u.trapped c info).pc = s.pc ∧ (u.trapped c info).npc = s.npc ∧
    (u.trapped c info).inDelaySlot = s.inDelaySlot ∧ (u.trapped c info).sinceHiLo = s.sinceHiLo ∧
    (u.trapped c info).unsynced = s.unsynced := by
  obtain rfl := Option.some.inj h
  obtain ⟨hp, hn, hd, hs, hu⟩ := control_eq_iff.1 hc
  exact ⟨rfl, by rw [State.trapRecord, hp, hd], hd, hp, hn, hd, hs, hu⟩

/-- Settles O15: an instruction that trapped has raised, or has left open what R82 leaves open. -/
theorem exceptionsArePrecise : Obligations.ExceptionsArePrecise := by
  intro s t i r hr he ht
  cases ending_of_exec he with
  | raised c info e =>
    subst e
    obtain ⟨-, hepc, hbd, hpc, hnpc, hd, hs, hu⟩ := precise_of_trapped rfl ht
    exact ⟨hepc, hbd, hpc, hnpc, hd, hs, hu, unchanged_trapped _ s c info⟩
  | openLoad m hm hk hi info e =>
    subst e
    obtain ⟨hc, hepc, hbd, hpc, hnpc, hd, hs, hu⟩ := precise_of_trapped rfl ht
    rw [hm, hc]
    exact ⟨hepc, hbd, hpc, hnpc, hd, hs, hu, unchanged_openLoad hi hk .vectorAddress info⟩
  | openStore m hm hk hi info e =>
    subst e
    obtain ⟨hc, hepc, hbd, hpc, hnpc, hd, hs, hu⟩ := precise_of_trapped rfl ht
    rw [hm, hc]
    exact ⟨hepc, hbd, hpc, hnpc, hd, hs, hu, unchanged_openStore hi hk .vectorAddress info⟩
  | completed hc =>
    rw [hc.trap, hr] at ht
    cases ht

/-! ## Frames of loads and stores (O18, O20) -/

/-- Settles O18, from the frame of every instruction. -/
theorem scalarMemoryFrame : Obligations.ScalarMemoryFrame := fun _ _ _ _ _ h => unchanged_of_exec h

/-- Settles O20, from the frame of every instruction. -/
theorem vectorMemoryFrame : Obligations.VectorMemoryFrame := fun _ _ _ _ _ h => unchanged_of_exec h

/-! ## The ordering discipline (O33) -/

theorem completes_sync (s : State) : Completes .sync s fun t => t.unsynced = [] :=
  ⟨s.synced.advance, rfl, rfl, ⟨rfl, rfl, rfl⟩, frame_execSync rfl, rfl⟩

/-- An access that completed was granted and recorded. -/
theorem granted_of_completed (hc : Completed i s t) (hn : i.memoryAccess s = some new) :
    Grants s new ∧ t.unsynced = (s.recordAccess new).unsynced := by
  cases hc.accessed with
  | none h => exact absurd (hn.symm.trans h) (by simp)
  | made new' _ h hg _ _ ho =>
    obtain rfl : new = new' := Option.some.inj (hn.symm.trans h)
    exact ⟨hg, ho⟩

/-- Without a conflict, a common byte of two accesses of which one writes is of the scalar unit alone (R73). -/
theorem scalar_of_not_conflicts {old : AccessRecord} (h : old.conflicts new = false)
    (hb : ∃ a, a ∈ old.bytes ∧ a ∈ new.bytes) (hw : old.kind = .write ∨ new.kind = .write) :
    old.unit = .scalar ∧ new.unit = .scalar := by
  obtain ⟨a, ha, hb⟩ := hb
  have h1 : (old.bytes.any fun a => new.bytes.contains a) = true :=
    List.any_eq_true.2 ⟨a, ha, List.contains_iff_mem.2 hb⟩
  have h2 : (old.kind == .write || new.kind == .write) = true := by simpa using hw
  rw [AccessRecord.conflicts, h1, h2] at h
  simpa using h

/-- Settles O33: a trap is an exception, so what did not trap has completed. -/
theorem orderingDiscipline : Obligations.OrderingDiscipline := by
  refine fun s => ⟨completes_sync s, fun t i new hn hr he ht => ?_⟩
  cases ending_of_exec he with
  | raised _ _ e | openLoad _ _ _ _ _ e | openStore _ _ _ _ _ e =>
    subst e
    cases ht
  | completed hc =>
    obtain ⟨hg, ho⟩ := granted_of_completed hc hn
    refine ⟨hg, fun hs => ⟨fun old hm => scalar_of_not_conflicts ?_, ?_⟩, fun hs => ?_⟩
    · have hf := hg.ordered
      simp only [State.unsyncedConflict, hs, Bool.true_and, List.any_eq_false, Bool.not_eq_true] at hf
      exact hf old hm
    · rw [ho, unsynced_recordAccess, if_pos hs]
    · rw [ho, unsynced_recordAccess, hs, if_neg Bool.false_ne_true]

end Sys2Proof.Machine
end

section
/-! PROOFS. The scalar loads and stores: values in memory and in registers (O27, O28), and the pair of `lwl` and `lwr`
(O31). -/

namespace Sys2Proof.Machine

variable {s t u : State} {i : Instr}

/-! ## Aligned loads and stores (R391 to R396, R399 to R401) -/

/-- A granted scalar load writes the extended value of the item at its address. -/
theorem writes_of_scalarLoad {size : Size} {ext : Extension} {rt : Reg} {a : Word}
    (he : exec i s = scalarLoad size ext rt a s) (ha : a.toNat % size.bytes = 0)
    (hg : Grants s ⟨.scalar, .read, byteAddrs a size.bytes⟩) :
    Writes i s rt (itemWord ext s.cfg.endian s.mem a.toNat size) := by
  have hal : aligned size a = true := beq_iff_eq.2 ha
  have hx := he.trans (scalarAccess_of_grants _ hal hg)
  refine ⟨_, hx, rfl, ⟨rfl, rfl, rfl⟩, unchanged_of_exec hx, ?_⟩
  rw [← extendLoaded_memRead s ext size a (no_wrap_of_aligned hal)]
  exact State.x_setX_same _ rt _

/-- A granted scalar store leaves the low bytes of the register at its address. -/
theorem completes_of_scalarStore {size : Size} {rt : Reg} {a : Word} (hm : s.mem.wf = true)
    (he : exec i s = scalarStore size rt a s) (ha : a.toNat % size.bytes = 0)
    (hg : Grants s ⟨.scalar, .write, byteAddrs a size.bytes⟩) :
    Completes i s fun t =>
      itemNat s.cfg.endian t.mem a.toNat size.bytes = (s.x rt).toNat % 256 ^ size.bytes := by
  have hal : aligned size a = true := beq_iff_eq.2 ha
  have hx := he.trans (scalarAccess_of_grants _ hal hg)
  exact ⟨_, hx, rfl, ⟨rfl, rfl, rfl⟩, unchanged_of_exec hx,
    itemNat_storeCells s.mem hm s.cfg.endian a size.bytes (s.x rt) (no_wrap_of_aligned hal)⟩

/-- Settles O27: the five loads are one operation with two parameters. -/
theorem scalarLoads : Obligations.ScalarLoads := by
  intro s rt rs imm
  rw [trunc32_add_imm]
  exact ⟨writes_of_scalarLoad rfl, writes_of_scalarLoad rfl, writes_of_scalarLoad rfl, writes_of_scalarLoad rfl,
    writes_of_scalarLoad rfl⟩

/-- Settles O28: the three stores are one operation with one parameter. -/
theorem scalarStores : Obligations.ScalarStores := by
  intro s rt rs imm hm
  rw [trunc32_add_imm]
  exact ⟨completes_of_scalarStore hm rfl, completes_of_scalarStore hm rfl, completes_of_scalarStore hm rfl⟩

/-! ## Bytes of a register (R397) -/

theorem getLsbD_byteMask (n : Nat) : (0xFF : Word).getLsbD n = decide (n < 8) := by
  have h : (0xFF : Word) = BitVec.ofNat 32 (2 ^ 8 - 1) := rfl
  rw [h, BitVec.getLsbD_ofNat, Nat.testBit_two_pow_sub_one]
  by_cases hn : n < 8 <;> simp [hn]
  omega

theorem getLsbD_setByte (r : Word) (k : Nat) (b : Byte) (n : Nat) (hn : n < 32) :
    (setByte r k b).getLsbD n = if 8 * k ≤ n ∧ n < 8 * k + 8 then b.getLsbD (n - 8 * k) else r.getLsbD n := by
  have hm : (0xFF : Word).getLsbD (n - 8 * k) = decide (n - 8 * k < 8) := getLsbD_byteMask _
  simp only [setByte, BitVec.getLsbD_or, BitVec.getLsbD_and, BitVec.getLsbD_not, BitVec.getLsbD_shiftLeft,
    BitVec.getLsbD_setWidth, hm, hn]
  by_cases h1 : 8 * k ≤ n
  · by_cases h2 : n < 8 * k + 8
    · have h3 : n - 8 * k < 8 := by omega
      have h4 : n - 8 * k < 32 := by omega
      have h5 : ¬ n < 8 * k := by omega
      simp [h1, h2, h3, h4, h5]
    · have h3 : ¬ n - 8 * k < 8 := by omega
      have h4 : b.getLsbD (n - 8 * k) = false := BitVec.getLsbD_of_ge b _ (by omega)
      simp [h2, h3, h4]
  · have h3 : n < 8 * k := by omega
    simp [h1, h3]

theorem getByte_setByte_same (r : Word) (k : Nat) (b : Byte) (hk : k < 4) : getByte (setByte r k b) k = b := by
  apply BitVec.eq_of_getLsbD_eq
  intro n hn
  rw [getByte, BitVec.getLsbD_extractLsb', getLsbD_setByte r k b _ (by omega), if_pos (by omega),
    Nat.add_sub_cancel_left]
  simp [hn]

theorem getByte_setByte_other (r : Word) (j k : Nat) (b : Byte) (hj : j < 4) (h : j ≠ k) :
    getByte (setByte r k b) j = getByte r j := by
  apply BitVec.eq_of_getLsbD_eq
  intro n hn
  rw [getByte, getByte, BitVec.getLsbD_extractLsb', BitVec.getLsbD_extractLsb',
    getLsbD_setByte r k b _ (by omega), if_neg (by omega)]

/-- A byte of the register that no lane meets is kept. -/
theorem getByte_mergeLanes_other (lanes : List (Nat × Nat)) (m : Memory) (r : Word) (k : Nat) (hk : k < 4)
    (hl : ∀ l ∈ lanes, l.2 ≠ k) : getByte (mergeLanes lanes m r) k = getByte r k := by
  induction lanes generalizing r with
  | nil => rfl
  | cons l ls ih =>
    exact (ih (setByte r l.2 (m.read l.1)) fun l' h => hl l' (List.mem_cons_of_mem l h)).trans
      (getByte_setByte_other r k l.2 _ hk (hl l List.mem_cons_self).symm)

/-- A byte of the register that a lane meets is the byte of memory of that lane. -/
theorem getByte_mergeLanes_mem (lanes : List (Nat × Nat)) (m : Memory) (r : Word) (l : Nat × Nat) (h : l ∈ lanes)
    (hl : ∀ l ∈ lanes, l.2 < 4) (hn : (lanes.map fun l => l.2).Nodup) :
    getByte (mergeLanes lanes m r) l.2 = m.read l.1 := by
  induction lanes generalizing r with
  | nil => cases h
  | cons d ds ih =>
    rw [List.map_cons, List.nodup_cons] at hn
    have hds : ∀ l ∈ ds, l.2 < 4 := fun l h => hl l (List.mem_cons_of_mem d h)
    obtain rfl | h := List.mem_cons.1 h
    · refine (getByte_mergeLanes_other ds m _ l.2 (hl l List.mem_cons_self) fun l' h' e => ?_).trans
        (getByte_setByte_same r l.2 _ (hl l List.mem_cons_self))
      exact hn.1 (List.mem_map.2 ⟨l', h', e⟩)
    · exact ih (setByte r d.2 (m.read d.1)) h hds hn.2

/-! ## The lanes of a partial word access (R397, R398) -/

/-- Lanes meet different bytes of the register. -/
structure LanesDistinct (lanes : List (Nat × Nat)) : Prop where
  lt : ∀ l ∈ lanes, l.2 < 4
  nodup : (lanes.map fun l => l.2).Nodup

theorem lanesDistinct_leftLanes (e : Endian) (a : Word) : LanesDistinct (leftLanes e a) := by
  cases e with
  | big | little =>
    refine ⟨fun l hl => ?_, ?_⟩
    · obtain ⟨j, -, rfl⟩ := List.mem_map.1 hl
      show 3 - j < 4
      omega
    · rw [leftLanes, List.map_map]
      refine List.Nodup.map_on (fun x hx y hy h => ?_) List.nodup_range
      have hx := List.mem_range.1 hx
      have hy := List.mem_range.1 hy
      simp only [Function.comp] at h
      omega

theorem lanesDistinct_rightLanes (e : Endian) (a : Word) : LanesDistinct (rightLanes e a) := by
  cases e with
  | big | little =>
    refine ⟨fun l hl => ?_, ?_⟩
    · obtain ⟨j, hj, rfl⟩ := List.mem_map.1 hl
      have hj := List.mem_range.1 hj
      show j < 4
      omega
    · rw [rightLanes, List.map_map]
      exact List.nodup_range.map fun x y h => h

/-- Two partial loads, one after the other: a byte that the second meets, or else the first, is the byte of memory. -/
theorem getByte_mergeLanes_pair {first second : List (Nat × Nat)} (h1 : LanesDistinct first)
    (h2 : LanesDistinct second) (m : Memory) (r : Word) {l : Nat × Nat}
    (h : l ∈ second ∨ l ∈ first ∧ ∀ d ∈ second, d.2 ≠ l.2) :
    getByte (mergeLanes second m (mergeLanes first m r)) l.2 = m.read l.1 := by
  obtain h | ⟨h, hd⟩ := h
  · exact getByte_mergeLanes_mem second m _ l h h2.lt h2.nodup
  · exact (getByte_mergeLanes_other second m _ l.2 (h1.lt l h) hd).trans
      (getByte_mergeLanes_mem first m r l h h1.lt h1.nodup)

/-- Big-endian, the lanes of the pair at `a` and `a + 3` reach byte `j` of the word from the byte at `a + 3 - j`. -/
theorem pair_lanes_big (a : Word) {j : Nat} (hj : j < 4) :
    ((a.toNat + (3 - j)) % 2 ^ 32, j) ∈ rightLanes .big (a + 3) ∨
    ((a.toNat + (3 - j)) % 2 ^ 32, j) ∈ leftLanes .big a ∧ ∀ d ∈ rightLanes .big (a + 3), d.2 ≠ j := by
  have ha := a.isLt
  have h3 : (a + 3).toNat = (a.toNat + 3) % 2 ^ 32 := by simp
  simp only [rightLanes, leftLanes, List.mem_map, List.mem_range, Prod.mk.injEq]
  by_cases h : j < (a + 3).toNat % 4 + 1
  · exact .inl ⟨j, h, by omega, rfl⟩
  · refine .inr ⟨⟨3 - j, by omega, by omega, by omega⟩, ?_⟩
    rintro d ⟨k, hk, rfl⟩ rfl
    exact h hk

/-- Little-endian, the lanes of the pair at `a + 3` and `a` reach byte `j` of the word from the byte at `a + j`. -/
theorem pair_lanes_little (a : Word) {j : Nat} (hj : j < 4) :
    ((a.toNat + j) % 2 ^ 32, j) ∈ rightLanes .little a ∨
    ((a.toNat + j) % 2 ^ 32, j) ∈ leftLanes .little (a + 3) ∧ ∀ d ∈ rightLanes .little a, d.2 ≠ j := by
  have ha := a.isLt
  have h3 : (a + 3).toNat = (a.toNat + 3) % 2 ^ 32 := by simp
  simp only [rightLanes, leftLanes, List.mem_map, List.mem_range, Prod.mk.injEq]
  by_cases h : j < 4 - a.toNat % 4
  · exact .inl ⟨j, h, by omega, rfl⟩
  · refine .inr ⟨⟨3 - j, by omega, by omega, by omega⟩, ?_⟩
    rintro d ⟨k, hk, rfl⟩ rfl
    exact h hk

/-! ## The pair of `lwl` and `lwr` -/

/-- What a partial load that answers a next state has done. -/
theorem next_of_loadLanes {lanes : List (Nat × Nat)} {rt : Reg} (h : loadLanes lanes rt s = .next t) (h0 : rt ≠ 0) :
    t.x rt = mergeLanes lanes s.mem (s.x rt) ∧ (∀ q, q ≠ rt → t.x q = s.x q) ∧ t.mem = s.mem ∧ t.cfg = s.cfg := by
  cases (grants_of_access s t _ _ h).2
  exact ⟨(State.x_setX_same _ rt _).trans (if_neg h0), fun q hq => State.x_setX_other _ rt q _ hq, rfl, rfl⟩

theorem exec_lwl (s : State) (rt : Reg) (imm : BitVec 16) (rs : Reg) :
    exec (.lwl rt imm rs) s = loadLanes (leftLanes s.cfg.endian (s.scalarAddr rs imm)) rt s := rfl

theorem exec_lwr (s : State) (rt : Reg) (imm : BitVec 16) (rs : Reg) :
    exec (.lwr rt imm rs) s = loadLanes (rightLanes s.cfg.endian (s.scalarAddr rs imm)) rt s := rfl

theorem scalarAddr_add_three (s : State) (rs : Reg) {imm imm' : BitVec 16} (h : imm'.toInt = imm.toInt + 3) :
    s.scalarAddr rs imm' = s.scalarAddr rs imm + 3 := by
  have hi : signExt16 imm' = signExt16 imm + 3 := by
    rw [← trunc32_imm, ← trunc32_imm, h]
    exact BitVec.ofInt_add ..
  rw [State.scalarAddr, State.scalarAddr, hi, BitVec.add_assoc]

/-- The pair merges both sets of lanes into the register, all from the memory before. -/
theorem x_of_pair {rt rs : Reg} {left right : BitVec 16} (h0 : rt ≠ 0) (hr : rt ≠ rs)
    (hl : exec (.lwl rt left rs) s = .next t) (hw : exec (.lwr rt right rs) t = .next u) :
    u.x rt = mergeLanes (rightLanes s.cfg.endian (s.scalarAddr rs right)) s.mem
      (mergeLanes (leftLanes s.cfg.endian (s.scalarAddr rs left)) s.mem (s.x rt)) := by
  rw [exec_lwl] at hl
  rw [exec_lwr] at hw
  obtain ⟨hx, hq, hm, hc⟩ := next_of_loadLanes hl h0
  obtain ⟨hx', -⟩ := next_of_loadLanes hw h0
  rw [hx', hx, hm, hc, State.scalarAddr, hq rs hr.symm, ← State.scalarAddr]

/-- Settles O31: byte by byte, in each byte order. -/
theorem unalignedLoadPair : Obligations.UnalignedLoadPair := by
  intro s t u rt rs imm imm' h0 hr hi
  rw [trunc32_add_imm]
  intro a left right hl hw j hj
  have hx := x_of_pair h0 hr hl hw
  have h3 := scalarAddr_add_three s rs hi
  rw [hx]
  cases he : s.cfg.endian with
  | big =>
    have hleft : left = imm := if_pos he
    have hright : right = imm' := if_pos he
    rw [hleft, hright, h3]
    exact getByte_mergeLanes_pair (lanesDistinct_leftLanes _ _) (lanesDistinct_rightLanes _ _) s.mem _
      (pair_lanes_big (s.scalarAddr rs imm) hj)
  | little =>
    have hleft : left = imm' := if_neg (by simp [he])
    have hright : right = imm := if_neg (by simp [he])
    rw [hleft, hright, h3]
    exact getByte_mergeLanes_pair (lanesDistinct_leftLanes _ _) (lanesDistinct_rightLanes _ _) s.mem _
      (pair_lanes_little (s.scalarAddr rs imm) hj)

end Sys2Proof.Machine
end

section
/-! PROOFS. Vector loads and stores (O45 to O49), and how an access that is not granted stops (O34). -/

namespace Sys2Proof.Machine

variable {s t u : State} {i : Instr} {new : AccessRecord}

/-! ## When a vector access passes its own tests (R142, R144) -/

/-- The address test of `VecMem`: the base of a unit-stride access, every element below `n` of another. -/
def State.accessAligned (s : State) (mode : VecMode) (size : Size) (n : Nat) : Bool :=
  match mode with
  | .unit rd _ => aligned size (s.x rd)
  | .strided _ _ | .indexed _ _ => !s.misalignedElement mode size n

/-- A vector load or store whose address test passes makes its access, also with `vlr = 0`. -/
theorem vecMem_of_accessAligned {vd : VReg} {kind : AccessKind} {mode : VecMode} {size : Size}
    {tr un : Nat → State → State} (hr : i.vectorRegisters = vd :: mode.regs) (hv : VectorReady i s)
    (hs : mode.sameRegister = false) (ha : s.accessAligned mode size s.vlr.toNat = true) :
    vecMem i vd kind mode size tr un s = s.vecTransfer kind mode size s.vlr.toNat (tr s.vlr.toNat) := by
  rw [vecMem, vectorPrologue_of_ready s i _ _ hv.usable (hr ▸ hv.present) hv.length, hs]
  cases mode with
  | unit rd rt =>
    have hb : aligned size (s.x rd) = true := ha
    simp [hb]
  | strided rd rt | indexed rd vt =>
    simp only [State.accessAligned, Bool.not_eq_true'] at ha
    simp [ha]

theorem misalignedElement_eq_false {mode : VecMode} {size : Size} {n : Nat} :
    s.misalignedElement mode size n = false ↔ ∀ k, k < n → (s.elementAddr mode size k).toNat % size.bytes = 0 := by
  simp [State.misalignedElement, aligned]

/-! ## Addresses of elements (R67) -/

theorem elementAddr_indexed (s : State) (rd : Reg) (vt : VReg) (size : Size) (k : Nat) :
    s.elementAddr (.indexed rd vt) size k = trunc32 ((s.x rd).toInt + (s.v vt k).toInt) :=
  (trunc32_add (s.x rd) (s.v vt k)).symm

theorem elementAddr_strided (s : State) (rd rt : Reg) (size : Size) (k : Nat) :
    s.elementAddr (.strided rd rt) size k = trunc32 ((s.x rd).toInt + (s.x rt).toInt * k) := by
  rw [State.elementAddr, trunc32, BitVec.ofInt_add, BitVec.ofInt_mul, BitVec.ofInt_toInt, BitVec.ofInt_toInt,
    BitVec.ofInt_natCast]

theorem toNat_elementAddr_unit (s : State) (rd rt : Reg) (size : Size) (k : Nat) :
    (s.elementAddr (.unit rd rt) size k).toNat = ((s.x rd).toNat + k * size.bytes) % 2 ^ 32 := by
  simp [State.elementAddr]

/-- Every element of a unit-stride access at an aligned base is aligned. -/
theorem aligned_elementAddr_unit {rd rt : Reg} {size : Size} (h : (s.x rd).toNat % size.bytes = 0) (k : Nat) :
    aligned size (s.elementAddr (.unit rd rt) size k) = true := by
  rw [aligned, beq_iff_eq, toNat_elementAddr_unit]
  cases size <;> simp only [Size.bytes] at h ⊢ <;> omega

/-- An access that passes its address test has every element below `n` aligned. -/
theorem aligned_of_accessAligned {mode : VecMode} {size : Size} {n k : Nat}
    (h : s.accessAligned mode size n = true) (hk : k < n) : aligned size (s.elementAddr mode size k) = true := by
  cases mode with
  | unit rd rt => exact aligned_elementAddr_unit (eq_of_beq h) k
  | strided | indexed =>
    simp only [State.accessAligned, Bool.not_eq_true'] at h
    exact beq_iff_eq.2 (misalignedElement_eq_false.1 h k hk)

/-! ## Vector loads (R67, R69, R143, R150 to R164) -/

/-- Recording an access changes no address. -/
theorem elementAddr_recordAccess (s : State) (new : AccessRecord) (mode : VecMode) (size : Size) (k : Nat) :
    (s.recordAccess new).elementAddr mode size k = s.elementAddr mode size k := by
  cases mode <;> rfl

/-- Reading the register whose first `n` elements were written (R27, R30). -/
theorem State.v_setV_same (s : State) (j : VReg) (n : Nat) (f : Nat → Word) {k : Nat} (hk : k < 32) :
    (s.setV j n f).v j k = if j = 0 then 0 else if k < n then f k else s.v j k := by
  simp [State.v_setV s j j n f k hk]

/-- The loaded elements are the extended items at the addresses of the state before. -/
theorem elementsAre_loadElements {vd : VReg} {mode : VecMode} {size : Size} {ext : Extension}
    (ha : s.accessAligned mode size s.vlr.toNat = true) :
    ElementsAre s ((s.recordAccess new).loadElements vd mode size ext s.vlr.toNat) vd fun k =>
      itemWord ext s.cfg.endian s.mem (s.elementAddr mode size k).toNat size := by
  intro k hk
  rw [State.loadElements, State.v_setV_same _ _ _ _ hk]
  refine if_congr Iff.rfl rfl ?_
  by_cases h : k < s.vlr.toNat
  · rw [if_pos h, if_pos h, elementAddr_recordAccess]
    exact extendLoaded_memRead s ext size _ (no_wrap_of_aligned (aligned_of_accessAligned ha h))
  · rw [if_neg h, if_neg h]
    rfl

theorem x_postIncrement_unit (s : State) (rd rt : Reg) :
    (s.postIncrement (.unit rd rt)).x rd = if rd = 0 then 0 else s.x rd + s.x rt :=
  State.x_setX_same s rd _

/-- A granted vector load writes the items at its addresses, and increments its base. -/
theorem completes_of_vecLoad {vd : VReg} {mode : VecMode} {size : Size} {ext : Extension}
    (he : exec i s = vecLoad i vd mode size ext s) (hr : i.vectorRegisters = vd :: mode.regs)
    (hv : VectorReady i s) (hs : mode.sameRegister = false)
    (ha : s.accessAligned mode size s.vlr.toNat = true)
    (hg : Grants s ⟨.vector, .read, s.elementBytes mode size s.vlr.toNat⟩) :
    Completes i s fun t => (∀ q, t.x q = (s.postIncrement mode).x q) ∧
      ElementsAre s t vd fun k => itemWord ext s.cfg.endian s.mem (s.elementAddr mode size k).toNat size := by
  rw [vecLoad, vecMem_of_accessAligned hr hv hs ha, State.vecTransfer, access_of_grants s _ _ hg] at he
  refine ⟨_, he, ?_, ?_, unchanged_of_exec he, fun q => ?_, fun k hk => ?_⟩
  · cases mode <;> rfl
  · cases mode <;> exact ⟨rfl, rfl, rfl⟩
  · cases mode <;> rfl
  · rw [State.v_advance, State.v_postIncrement]
    exact elementsAre_loadElements ha k hk

theorem completes_of_unitLoad {vd : VReg} {rd rt : Reg} {size : Size} {ext : Extension} (hne : rd ≠ rt)
    (he : exec i s = vecLoad i vd (.unit rd rt) size ext s) (hr : i.vectorRegisters = [vd])
    (hv : VectorReady i s) (ha : (s.x rd).toNat % size.bytes = 0)
    (hg : Grants s ⟨.vector, .read, s.elementBytes (.unit rd rt) size s.vlr.toNat⟩) :
    Completes i s fun t => (t.x rd = if rd = 0 then 0 else s.x rd + s.x rt) ∧
      ElementsAre s t vd fun k =>
        itemWord ext s.cfg.endian s.mem (((s.x rd).toNat + k * size.bytes) % 2 ^ 32) size := by
  obtain ⟨t, hx, ht, hadv, hu, hq, hel⟩ :=
    completes_of_vecLoad he hr hv (by simpa [VecMode.sameRegister] using hne) (beq_iff_eq.2 ha) hg
  refine ⟨t, hx, ht, hadv, hu, (hq rd).trans (x_postIncrement_unit s rd rt), ?_⟩
  simpa only [toNat_elementAddr_unit] using hel

/-- Settles O45: the five loads are one operation with two parameters. -/
theorem unitStrideLoads : Obligations.UnitStrideLoads := by
  intro s vd rd rt hne
  exact ⟨completes_of_unitLoad hne rfl rfl, completes_of_unitLoad hne rfl rfl, completes_of_unitLoad hne rfl rfl,
    completes_of_unitLoad hne rfl rfl, completes_of_unitLoad hne rfl rfl⟩

/-- An addressing mode other than unit-stride: its test is on the elements, and it increments nothing. -/
structure VecMode.Elementwise (mode : VecMode) : Prop where
  ne_unit : ∀ rd rt, mode ≠ .unit rd rt
  sameRegister : mode.sameRegister = false
  accessAligned : ∀ (s : State) (size : Size) (n : Nat),
    s.accessAligned mode size n = !s.misalignedElement mode size n

theorem elementwise_indexed (rd : Reg) (vt : VReg) : (VecMode.indexed rd vt).Elementwise :=
  ⟨fun _ _ => VecMode.noConfusion, rfl, fun _ _ _ => rfl⟩

theorem elementwise_strided (rd rt : Reg) : (VecMode.strided rd rt).Elementwise :=
  ⟨fun _ _ => VecMode.noConfusion, rfl, fun _ _ _ => rfl⟩

theorem accessAligned_of_elements {mode : VecMode} {size : Size} {n : Nat} {address : Nat → Word}
    (hm : mode.Elementwise) (hd : ∀ k, s.elementAddr mode size k = address k)
    (ha : ∀ k, k < n → (address k).toNat % size.bytes = 0) : s.accessAligned mode size n = true := by
  rw [hm.accessAligned, misalignedElement_eq_false.2 fun k hk => (hd k).symm ▸ ha k hk]
  rfl

theorem completes_of_elementLoad {vd : VReg} {mode : VecMode} {size : Size} {ext : Extension}
    {address : Nat → Word} (hm : mode.Elementwise) (hd : ∀ k, s.elementAddr mode size k = address k)
    (he : exec i s = vecLoad i vd mode size ext s) (hr : i.vectorRegisters = vd :: mode.regs)
    (hv : VectorReady i s) (ha : ∀ k, k < s.vlr.toNat → (address k).toNat % size.bytes = 0)
    (hg : Grants s ⟨.vector, .read, s.elementBytes mode size s.vlr.toNat⟩) :
    Completes i s fun t =>
      ElementsAre s t vd fun k => itemWord ext s.cfg.endian s.mem (address k).toNat size := by
  obtain ⟨t, hx, ht, hadv, hu, -, hel⟩ :=
    completes_of_vecLoad he hr hv hm.sameRegister (accessAligned_of_elements hm hd ha) hg
  exact ⟨t, hx, ht, hadv, hu, by simpa only [hd] using hel⟩

/-- Settles O46: five indexed loads and five strided ones. -/
theorem indexedAndStridedLoads : Obligations.IndexedAndStridedLoads := by
  intro s vd vt rd rt
  have hi := elementwise_indexed rd vt
  have hs := elementwise_strided rd rt
  exact ⟨completes_of_elementLoad hi (elementAddr_indexed s rd vt _) rfl rfl,
    completes_of_elementLoad hi (elementAddr_indexed s rd vt _) rfl rfl,
    completes_of_elementLoad hi (elementAddr_indexed s rd vt _) rfl rfl,
    completes_of_elementLoad hi (elementAddr_indexed s rd vt _) rfl rfl,
    completes_of_elementLoad hi (elementAddr_indexed s rd vt _) rfl rfl,
    completes_of_elementLoad hs (elementAddr_strided s rd rt _) rfl rfl,
    completes_of_elementLoad hs (elementAddr_strided s rd rt _) rfl rfl,
    completes_of_elementLoad hs (elementAddr_strided s rd rt _) rfl rfl,
    completes_of_elementLoad hs (elementAddr_strided s rd rt _) rfl rfl,
    completes_of_elementLoad hs (elementAddr_strided s rd rt _) rfl rfl⟩

end Sys2Proof.Machine
end

section
/-! PROOFS. Vector stores (O47, O48), Vector address exceptions (O49), and how an access that is not granted stops
(O34). -/

namespace Sys2Proof.Machine

variable {s t u : State} {i : Instr} {new : AccessRecord}

/-! ## Overlapping writes (R70) -/

/-- After many bytes are written, an address among them reads one of the bytes written to it. -/
theorem Memory.read_writeAll_of_mem (m : Memory) (cells : List Host.Cell) (a : Nat) (hm : m.wf = true)
    (hb : ∀ c ∈ cells, c.1 < 2 ^ 32) (ha : ∃ c ∈ cells, c.1 = a) :
    ∃ c ∈ cells, c.1 = a ∧ (m.writeAll cells).read a = c.2 := by
  induction cells generalizing m with
  | nil =>
    obtain ⟨c, hc, -⟩ := ha
    cases hc
  | cons d ds ih =>
    have hw : (m.write d.1 d.2).wf = true := Memory.wf_write m d.1 d.2 (hb d List.mem_cons_self) hm
    by_cases hds : ∃ c ∈ ds, c.1 = a
    · obtain ⟨c, hc, he, hr⟩ := ih (m.write d.1 d.2) hw (fun c hc => hb c (List.mem_cons_of_mem d hc)) hds
      exact ⟨c, List.mem_cons_of_mem d hc, he, hr⟩
    · push Not at hds
      obtain ⟨c, hc, rfl⟩ := ha
      obtain rfl | hc := List.mem_cons.1 hc
      · exact ⟨c, List.mem_cons_self, rfl,
          (Memory.read_writeAll_other _ ds c.1 hds).trans (Memory.read_write_same m c.1 c.2 hm)⟩
      · exact absurd rfl (hds c hc)

/-- The free choice is among the values. -/
theorem chooseByte_mem (w : Word) (values : List Byte) (h : values ≠ []) : chooseByte w values ∈ values := by
  cases values with
  | nil => exact absurd rfl h
  | cons b bs =>
    cases bs with
    | nil => exact List.mem_singleton_self b
    | cons c cs =>
      have hlt : w.toNat % (b :: c :: cs).length < (b :: c :: cs).length := Nat.mod_lt _ (Nat.succ_pos _)
      rw [chooseByte, List.getD_eq_getElem _ _ hlt]
      · exact List.getElem_mem hlt
      · simp

theorem mem_candidates {cells : List Host.Cell} {a : Nat} {b : Byte} :
    b ∈ candidates cells a ↔ (a, b) ∈ cells := by
  simp only [candidates, List.mem_map, List.mem_filter, beq_iff_eq]
  constructor
  · rintro ⟨c, ⟨hc, rfl⟩, rfl⟩
    exact hc
  · exact fun h => ⟨(a, b), ⟨h, rfl⟩, rfl⟩

/-- Resolving the overlaps of cells chooses, for each address, one of its own cells. -/
theorem mem_of_mem_resolveCells {cells : List Host.Cell} {c : Host.Cell} (hc : c ∈ s.resolveCells cells) :
    c ∈ cells := by
  obtain ⟨k, hk, rfl⟩ := List.mem_mapIdx.1 hc
  exact mem_candidates.1 (chooseByte_mem _ _ (List.ne_nil_of_mem (mem_candidates.2 (List.getElem_mem hk))))

/-- Resolving keeps every address. -/
theorem address_mem_resolveCells {cells : List Host.Cell} {c : Host.Cell} (hc : c ∈ cells) :
    ∃ d ∈ s.resolveCells cells, d.1 = c.1 := by
  obtain ⟨k, hk, rfl⟩ := List.getElem_of_mem hc
  exact ⟨_, List.mem_mapIdx.2 ⟨k, hk, rfl⟩, rfl⟩

/-! ## The cells of a vector store -/

/-- The byte that an item of `n` bytes holds at its address plus `j` (R63). -/
def storedByte (e : Endian) (n : Nat) (v : Word) (j : Nat) : Byte :=
  v.extractLsb' (8 * if e = .big then n - 1 - j else j) 8

theorem splitBytes_eq_map (e : Endian) (n : Nat) (v : Word) :
    splitBytes e n v = (List.range n).map (storedByte e n v) := by
  cases e <;> rfl

theorem mem_storeCells {e : Endian} {a : Word} {n : Nat} {v : Word} {c : Host.Cell} :
    c ∈ storeCells e a n v ↔ ∃ j < n, c = ((a.toNat + j) % 2 ^ 32, storedByte e n v j) := by
  rw [storeCells, byteAddrs, splitBytes_eq_map, List.zip_map']
  simp only [List.mem_map, List.mem_range, eq_comm]

theorem mem_elementCells {vd : VReg} {mode : VecMode} {size : Size} {n : Nat} {c : Host.Cell} :
    c ∈ s.elementCells vd mode size n ↔ ∃ k < n, ∃ j < size.bytes,
      c = (((s.elementAddr mode size k).toNat + j) % 2 ^ 32,
        storedByte s.cfg.endian size.bytes (s.v vd k) j) := by
  simp only [State.elementCells, List.mem_flatMap, List.mem_range, mem_storeCells]

/-- A byte of an aligned item has its address without wrapping around. -/
theorem byteAddr_of_aligned {size : Size} {a : Word} {j : Nat} (h : aligned size a = true) (hj : j < size.bytes) :
    (a.toNat + j) % 2 ^ 32 = a.toNat + j :=
  Nat.mod_eq_of_lt (by have := no_wrap_of_aligned h; omega)

/-- Every byte stored to reads the byte of some element that writes it. -/
theorem read_storeElements {vd : VReg} {mode : VecMode} {size : Size} {n : Nat} (hm : s.mem.wf = true)
    (ha : ∀ k, k < n → aligned size (s.elementAddr mode size k) = true) {k j : Nat} (hk : k < n)
    (hj : j < size.bytes) :
    ∃ k' j', k' < n ∧ j' < size.bytes ∧
      (s.elementAddr mode size k').toNat + j' = (s.elementAddr mode size k).toNat + j ∧
      (s.storeElements vd mode size n).mem.read ((s.elementAddr mode size k).toNat + j) =
        storedByte s.cfg.endian size.bytes (s.v vd k') j' := by
  have hb : ∀ c ∈ s.resolveCells (s.elementCells vd mode size n), c.1 < 2 ^ 32 := fun c hc =>
    elementBytes_lt (mem_elementBytes_of_resolveCells s vd mode size n c hc)
  obtain ⟨d, hd, he⟩ := address_mem_resolveCells (s := s)
    (mem_elementCells.2 ⟨k, hk, j, hj, rfl⟩ : _ ∈ s.elementCells vd mode size n)
  rw [byteAddr_of_aligned (ha k hk) hj] at he
  obtain ⟨c, hc, hca, hr⟩ := Memory.read_writeAll_of_mem s.mem _ _ hm hb ⟨d, hd, he⟩
  obtain ⟨k', hk', j', hj', rfl⟩ := mem_elementCells.1 (mem_of_mem_resolveCells hc)
  rw [byteAddr_of_aligned (ha k' hk') hj'] at hca
  exact ⟨k', j', hk', hj', hca, hr⟩

theorem read_storeElements_recordAccess {vd : VReg} {mode : VecMode} {size : Size} {n : Nat} (hm : s.mem.wf = true)
    (new : AccessRecord) (ha : ∀ k, k < n → aligned size (s.elementAddr mode size k) = true) {k j : Nat} (hk : k < n)
    (hj : j < size.bytes) :
    ∃ k' j', k' < n ∧ j' < size.bytes ∧
      (s.elementAddr mode size k').toNat + j' = (s.elementAddr mode size k).toNat + j ∧
      ((s.recordAccess new).storeElements vd mode size n).mem.read ((s.elementAddr mode size k).toNat + j) =
        storedByte s.cfg.endian size.bytes (s.v vd k') j' := by
  have h := read_storeElements (s := s.recordAccess new) (vd := vd) (mode := mode) (size := size) (n := n) hm
    (by simpa only [elementAddr_recordAccess] using ha) hk hj
  simpa only [elementAddr_recordAccess, State.cfg_recordAccess, State.v_recordAccess] using h

theorem mem_postIncrement (s : State) (mode : VecMode) : (s.postIncrement mode).mem = s.mem := by
  cases mode <;> rfl

theorem trap_postIncrement (s : State) (mode : VecMode) : (s.postIncrement mode).trap = s.trap := by
  cases mode <;> rfl

theorem npc_postIncrement (s : State) (mode : VecMode) : (s.postIncrement mode).npc = s.npc := by
  cases mode <;> rfl

/-- The post-increment depends on the scalar registers only. -/
theorem x_postIncrement_congr (mode : VecMode) (h : ∀ r, t.x r = s.x r) {q : Reg} :
    (t.postIncrement mode).x q = (s.postIncrement mode).x q := by
  cases mode with
  | unit rd rt => rw [State.postIncrement, State.postIncrement, State.x_setX, State.x_setX, h, h, h]
  | strided | indexed => exact h q

theorem trap_storeElements (s : State) (vd : VReg) (mode : VecMode) (size : Size) (n : Nat) :
    (s.storeElements vd mode size n).trap = s.trap := by
  simp only [State.storeElements, State.trap_drawn, State.trap_vectorStoreLink, State.trap_writeCells]

theorem npc_storeElements (s : State) (vd : VReg) (mode : VecMode) (size : Size) (n : Nat) :
    (s.storeElements vd mode size n).npc = s.npc := by
  simp only [State.storeElements, State.npc_drawn, State.npc_vectorStoreLink, State.npc_writeCells]

theorem x_storeElements (s : State) (vd : VReg) (mode : VecMode) (size : Size) (n : Nat) (q : Reg) :
    (s.storeElements vd mode size n).x q = s.x q := by
  simp only [State.storeElements, State.x_drawn, State.x_vectorStoreLink, State.x_writeCells]

theorem advances_advance (h : t.npc = s.npc) : Advances s t.advance :=
  ⟨h, congrArg (· + 4) h, rfl⟩

theorem x_freeElements (s : State) (vd : VReg) (n : Nat) (q : Reg) : (s.freeElements vd n).x q = s.x q := by
  rw [State.freeElements, State.x_drawn, State.x_setV]

theorem x_freeBytes (s : State) (vd : VReg) (mode : VecMode) (size : Size) (n : Nat) (q : Reg) :
    (s.freeBytes vd mode size n).x q = s.x q := by
  rw [State.freeBytes, State.x_drawn, State.x_writeCells]

/-! ## Vector stores (R70, R143, R165 to R173) -/

/-- A granted vector store completes; every byte stored to ends with that of some element that writes it. -/
theorem completes_of_vecStore {vd : VReg} {mode : VecMode} {size : Size} (hm : s.mem.wf = true)
    (he : exec i s = vecStore i vd mode size s) (hr : i.vectorRegisters = vd :: mode.regs)
    (hv : VectorReady i s) (hs : mode.sameRegister = false)
    (ha : s.accessAligned mode size s.vlr.toNat = true)
    (hg : Grants s ⟨.vector, .write, s.elementBytes mode size s.vlr.toNat⟩) :
    Completes i s fun t => (∀ q, t.x q = (s.postIncrement mode).x q) ∧
      ∀ k j, k < s.vlr.toNat → j < size.bytes → ∃ k' j', k' < s.vlr.toNat ∧ j' < size.bytes ∧
        (s.elementAddr mode size k').toNat + j' = (s.elementAddr mode size k).toNat + j ∧
        t.mem.read ((s.elementAddr mode size k).toNat + j) =
          storedByte s.cfg.endian size.bytes (s.v vd k') j' := by
  rw [vecStore, vecMem_of_accessAligned hr hv hs ha, State.vecTransfer, access_of_grants s _ _ hg] at he
  refine ⟨_, he, ?_, ?_, unchanged_of_exec he, fun q => ?_, fun k j hk hj => ?_⟩
  · rw [State.trap_advance, trap_postIncrement, trap_storeElements, State.trap_recordAccess]
  · refine advances_advance ?_
    rw [npc_postIncrement, npc_storeElements, State.npc_recordAccess]
  · rw [State.x_advance, x_postIncrement_congr mode fun r => ?_]
    rw [x_storeElements, State.x_recordAccess]
  · rw [State.mem_advance, mem_postIncrement]
    exact read_storeElements_recordAccess hm _ (fun k => aligned_of_accessAligned ha) hk hj

theorem completes_of_elementStore {vd : VReg} {mode : VecMode} {size : Size} {address : Nat → Word}
    (hm : s.mem.wf = true) (hmode : mode.Elementwise) (hd : ∀ k, s.elementAddr mode size k = address k)
    (he : exec i s = vecStore i vd mode size s) (hr : i.vectorRegisters = vd :: mode.regs)
    (hv : VectorReady i s) (ha : ∀ k, k < s.vlr.toNat → (address k).toNat % size.bytes = 0)
    (hg : Grants s ⟨.vector, .write, s.elementBytes mode size s.vlr.toNat⟩) :
    Completes i s fun t => ∀ k j, k < s.vlr.toNat → j < size.bytes →
      ∃ k' j', k' < s.vlr.toNat ∧ j' < size.bytes ∧ (address k').toNat + j' = (address k).toNat + j ∧
        t.mem.read ((address k).toNat + j) = (s.v vd k').extractLsb'
          (8 * if s.cfg.endian = .big then size.bytes - 1 - j' else j') 8 := by
  obtain ⟨t, hx, ht, hadv, hu, -, hb⟩ :=
    completes_of_vecStore hm he hr hv hmode.sameRegister (accessAligned_of_elements hmode hd ha) hg
  simp only [hd] at hb
  exact ⟨t, hx, ht, hadv, hu, hb⟩

/-- Settles O48: three indexed stores and three strided ones. -/
theorem indexedAndStridedStores : Obligations.IndexedAndStridedStores := by
  intro s vd vt rd rt hm
  have hi := elementwise_indexed rd vt
  have hs := elementwise_strided rd rt
  exact ⟨completes_of_elementStore hm hi (elementAddr_indexed s rd vt _) rfl rfl,
    completes_of_elementStore hm hi (elementAddr_indexed s rd vt _) rfl rfl,
    completes_of_elementStore hm hi (elementAddr_indexed s rd vt _) rfl rfl,
    completes_of_elementStore hm hs (elementAddr_strided s rd rt _) rfl rfl,
    completes_of_elementStore hm hs (elementAddr_strided s rd rt _) rfl rfl,
    completes_of_elementStore hm hs (elementAddr_strided s rd rt _) rfl rfl⟩

/-- The elements of a unit-stride access at an aligned base do not overlap. -/
theorem unit_elements_disjoint {rd rt : Reg} {size : Size} {k k' j j' : Nat} (ha : (s.x rd).toNat % size.bytes = 0)
    (hk : k < 32) (hk' : k' < 32) (hj : j < size.bytes) (hj' : j' < size.bytes)
    (h : (s.elementAddr (.unit rd rt) size k').toNat + j' = (s.elementAddr (.unit rd rt) size k).toNat + j) :
    k' = k ∧ j' = j := by
  rw [toNat_elementAddr_unit, toNat_elementAddr_unit] at h
  cases size <;> simp only [Size.bytes] at ha hj hj' h <;> omega

/-- An aligned item whose bytes are those of a word has the value of its low bytes. -/
theorem itemNat_of_storedBytes {e : Endian} {m : Memory} {size : Size} {a v : Word} (ha : aligned size a = true)
    (hb : ∀ j, j < size.bytes → m.read (a.toNat + j) = storedByte e size.bytes v j) :
    itemNat e m a.toNat size.bytes = v.toNat % 256 ^ size.bytes := by
  have hs : (byteAddrs a size.bytes).map m.read = splitBytes e size.bytes v := by
    rw [byteAddrs_of_no_wrap a _ (no_wrap_of_aligned ha), splitBytes_eq_map, List.map_map]
    exact List.map_congr_left fun j hj => hb j (List.mem_range.1 hj)
  rw [itemNat_eq_of_bytes e m a _ (no_wrap_of_aligned ha), hs, leastFirst_splitBytes, ofDigits_splitBytes]

theorem completes_of_unitStore {vd : VReg} {rd rt : Reg} {size : Size} (hm : s.mem.wf = true) (hne : rd ≠ rt)
    (he : exec i s = vecStore i vd (.unit rd rt) size s) (hr : i.vectorRegisters = [vd])
    (hv : VectorReady i s) (ha : (s.x rd).toNat % size.bytes = 0)
    (hg : Grants s ⟨.vector, .write, s.elementBytes (.unit rd rt) size s.vlr.toNat⟩) :
    Completes i s fun t => (t.x rd = if rd = 0 then 0 else s.x rd + s.x rt) ∧
      ∀ k, k < s.vlr.toNat →
        itemNat s.cfg.endian t.mem (((s.x rd).toNat + k * size.bytes) % 2 ^ 32) size.bytes =
          (s.v vd k).toNat % 256 ^ size.bytes := by
  obtain ⟨t, hx, ht, hadv, hu, hq, hb⟩ :=
    completes_of_vecStore hm he hr hv (by simpa [VecMode.sameRegister] using hne) (beq_iff_eq.2 ha) hg
  refine ⟨t, hx, ht, hadv, hu, (hq rd).trans (x_postIncrement_unit s rd rt), fun k hk => ?_⟩
  rw [← toNat_elementAddr_unit s rd rt]
  refine itemNat_of_storedBytes (aligned_elementAddr_unit ha k) fun j hj => ?_
  obtain ⟨k', j', hk', hj', haddr, hread⟩ := hb k j hk hj
  have hl := hv.length
  obtain ⟨rfl, rfl⟩ := unit_elements_disjoint ha (by omega) (by omega) hj hj' haddr
  exact hread

/-- Settles O47: the three stores are one operation with one parameter. -/
theorem unitStrideStores : Obligations.UnitStrideStores := by
  intro s vd rd rt hm hne
  exact ⟨completes_of_unitStore hm hne rfl rfl, completes_of_unitStore hm hne rfl rfl,
    completes_of_unitStore hm hne rfl rfl⟩

/-! ## Vector address exceptions (R65, R82, R144, R454) -/

/-- Every vector load and store is `VecMem` on its access; what a Vector address exception leaves has the scalar
registers of the state before. -/
theorem exec_eq_vecMem (s : State) {m : VectorAccess} (hm : i.vectorAccess = some m) :
    ∃ tr un : Nat → State → State, exec i s = vecMem i m.vd m.kind m.mode m.size tr un s ∧
      ∀ n q, (un n s).x q = s.x q := by
  obtain ⟨hk, ext, he⟩ | ⟨hk, he⟩ := exec_of_vectorAccess i m s hm
  · rw [vecLoad, ← hk] at he
    exact ⟨_, _, he, fun n q => x_freeElements s m.vd n q⟩
  · rw [vecStore, ← hk] at he
    exact ⟨_, _, he, fun n q => x_freeBytes s m.vd m.mode m.size n q⟩

/-- A unit-stride access at a misaligned base raises, or is refused when it moves no element. -/
theorem exec_of_misaligned_base {vd : VReg} {kind : AccessKind} {rd rt : Reg} {size : Size}
    (hm : i.vectorAccess = some ⟨kind, vd, .unit rd rt, size⟩) (hv : VectorReady i s) (hne : rd ≠ rt)
    (ha : (s.x rd).toNat % size.bytes ≠ 0) :
    if s.vlr = 0 then exec i s = .refused .emptyAccessMisaligned
    else Raises i s .vectorAddress (.word (encode i)) := by
  obtain ⟨tr, un, he, -⟩ := exec_eq_vecMem s hm
  have hp := hv.present
  rw [vectorRegisters_of_vectorAccess hm] at hp
  have hs : (VecMode.unit rd rt).sameRegister = false := by simpa [VecMode.sameRegister] using hne
  have hb : aligned size (s.x rd) = false := by simpa [aligned] using ha
  rw [vecMem, vectorPrologue_of_ready s i _ _ hv.usable hp hv.length, hs] at he
  simp only [hb, Bool.false_eq_true, if_false] at he
  have h0 : s.vlr.toNat = 0 ↔ s.vlr = 0 := BitVec.toNat_inj (y := 0)
  split_ifs with h
  · rw [he, if_pos (h0.2 h)]
  · rw [if_neg fun hn => h (h0.1 hn)] at he
    exact he

/-- A strided or indexed access with a misaligned element raises, and writes no scalar register. -/
theorem exec_of_misaligned_element {vd : VReg} {kind : AccessKind} {mode : VecMode} {size : Size}
    {address : Nat → Word} (hmode : mode.Elementwise) (hd : ∀ k, s.elementAddr mode size k = address k)
    (hm : i.vectorAccess = some ⟨kind, vd, mode, size⟩) (hv : VectorReady i s)
    (ha : ∃ k, k < s.vlr.toNat ∧ (address k).toNat % size.bytes ≠ 0) :
    ∃ t r, exec i s = .next t ∧ t.trap = some r ∧ r.cause = .vectorAddress ∧
      r.info = .word (encode i) ∧ ∀ q, t.x q = s.x q := by
  obtain ⟨tr, un, he, hx⟩ := exec_eq_vecMem s hm
  have hp := hv.present
  rw [vectorRegisters_of_vectorAccess hm] at hp
  have hmis : s.misalignedElement mode size s.vlr.toNat = true := by
    obtain ⟨k, hk, hne⟩ := ha
    exact Bool.eq_true_of_not_eq_false fun hf => hne (hd k ▸ misalignedElement_eq_false.1 hf k hk)
  have raised : exec i s = (un s.vlr.toNat s).raise .vectorAddress (.word (encode i)) := by
    rw [he, vecMem, vectorPrologue_of_ready s i _ _ hv.usable hp hv.length]
    cases mode with
    | unit rd rt => exact absurd rfl (hmode.ne_unit rd rt)
    | strided | indexed => simp [VecMode.sameRegister, hmis]
  exact ⟨_, _, raised, rfl, rfl, rfl, hx _⟩

/-- Settles O49: the test is on the base for the unit-stride forms, on the elements for the others. -/
theorem vectorAddressTraps : Obligations.VectorAddressTraps := by
  intro s vd vt rd rt
  have indexed {i : Instr} {kind : AccessKind} {size : Size}
      (hm : i.vectorAccess = some ⟨kind, vd, .indexed rd vt, size⟩) :=
    exec_of_misaligned_element (s := s) (elementwise_indexed rd vt) (elementAddr_indexed s rd vt size) hm
  have strided {i : Instr} {kind : AccessKind} {size : Size}
      (hm : i.vectorAccess = some ⟨kind, vd, .strided rd rt, size⟩) :=
    exec_of_misaligned_element (s := s) (elementwise_strided rd rt) (elementAddr_strided s rd rt size) hm
  exact ⟨exec_of_misaligned_base rfl, exec_of_misaligned_base rfl, exec_of_misaligned_base rfl,
    exec_of_misaligned_base rfl, exec_of_misaligned_base rfl, indexed rfl, indexed rfl, indexed rfl, indexed rfl,
    indexed rfl, strided rfl, strided rfl, strided rfl, strided rfl, strided rfl⟩

/-! ## Accesses that are not granted (R73, R77, R79, R81) -/

/-- The stops of an access, in their order: a conflict, a store to the text, a byte that the launch memory lacks. -/
def StopsUngranted (s : State) (new : AccessRecord) (r : Result) : Prop :=
  (s.unsyncedConflict new = true → r = .refused .unsynchronisedConflict) ∧
  (s.unsyncedConflict new = false → new.kind = .write → (∃ c ∈ new.bytes, s.inText c = true) →
    r = .refused .storeToProgramText) ∧
  (s.unsyncedConflict new = false → (new.kind = .write → ∀ c ∈ new.bytes, s.inText c = false) →
    (∃ c ∈ new.bytes, s.mapped new.kind c = false) → r = .fault .noSuchByte)

theorem stops_of_access {r : Result} {k : State → Result} (he : r = s.access new k) : StopsUngranted s new r := by
  subst he
  refine ⟨fun h => ?_, fun h hk ht => ?_, fun h ht hb => ?_⟩
  · rw [State.access, if_pos h]
  · have hx : (new.kind == .write && new.bytes.any s.inText) = true := by simpa [hk] using ht
    rw [State.access, h, if_neg Bool.false_ne_true, if_pos hx]
  · have hx : (new.kind == .write && new.bytes.any s.inText) = false := by
      by_cases hk : new.kind = .write
      · simpa [hk] using ht hk
      · simp [hk]
    have hy : (!new.bytes.all (s.mapped new.kind)) = true := by simpa using hb
    rw [State.access, h, hx, if_neg Bool.false_ne_true, if_neg Bool.false_ne_true, if_pos hy]

theorem stops_of_scalarAccess {r : Result} {kind : AccessKind} {size : Size} {a : Word} {k : State → Result}
    (he : r = scalarAccess kind size a k s) (ha : a.toNat % size.bytes = 0) :
    StopsUngranted s ⟨.scalar, kind, byteAddrs a size.bytes⟩ r :=
  stops_of_access (he.trans (if_pos (beq_iff_eq.2 ha)))

theorem stops_of_loadLanes {r : Result} {lanes : List (Nat × Nat)} {rt : Reg} (he : r = loadLanes lanes rt s) :
    StopsUngranted s ⟨.scalar, .read, lanes.map fun l => l.1⟩ r :=
  stops_of_access he

theorem stops_of_storeLanes {r : Result} {lanes : List (Nat × Nat)} {rt : Reg} (he : r = storeLanes lanes rt s) :
    StopsUngranted s ⟨.scalar, .write, lanes.map fun l => l.1⟩ r :=
  stops_of_access he

/-- An access without bytes conflicts with nothing, and has no byte to stop at. -/
theorem stops_of_no_bytes {r : Result} {unit : MemUnit} {kind : AccessKind} : StopsUngranted s ⟨unit, kind, []⟩ r := by
  simp [StopsUngranted, State.unsyncedConflict, AccessRecord.conflicts]

/-- An aligned `sc` to the linked address makes its access. -/
theorem stops_of_sc {rt : Reg} {imm : BitVec 16} {rs : Reg} (hb : s.llBit = true)
    (hl : s.llAddr = s.scalarAddr rs imm) (ha : (s.scalarAddr rs imm).toNat % 4 = 0) :
    StopsUngranted s ⟨.scalar, .write, byteAddrs (s.scalarAddr rs imm) 4⟩ (exec (.sc rt imm rs) s) := by
  have hal : aligned .word (s.scalarAddr rs imm) = true := beq_iff_eq.2 ha
  have he := exec_sc s rt imm rs
  simp only [execSc, hal, hb, hl, Bool.not_true, Bool.false_eq_true, if_false, bne_self_eq_false] at he
  exact stops_of_access he

/-- A vector load or store that passes its own tests makes its access. -/
theorem stops_of_vectorAccess {m : VectorAccess} (hm : i.vectorAccess = some m) (hv : VectorReady i s)
    (hs : m.mode.sameRegister = false)
    (ha : ∀ k, k < s.vlr.toNat → (s.elementAddr m.mode m.size k).toNat % m.size.bytes = 0) :
    StopsUngranted s ⟨.vector, m.kind, s.elementBytes m.mode m.size s.vlr.toNat⟩ (exec i s) := by
  by_cases hn : s.vlr.toNat = 0
  · rw [hn]
    exact stops_of_no_bytes
  · obtain ⟨tr, un, he, -⟩ := exec_eq_vecMem s hm
    have hp := hv.present
    rw [vectorRegisters_of_vectorAccess hm] at hp
    exact stops_of_access
      (he.trans (vecMem_of_aligned i m.vd m.kind m.mode m.size tr un s hv.usable hp hv.length hn hs ha))

theorem map_fst_leftLanes (e : Endian) (a : Word) :
    (leftLanes e a).map (fun l => l.1) =
      (List.range (if e = .big then 4 - a.toNat % 4 else a.toNat % 4 + 1)).map fun j =>
        if e = .big then a.toNat + j else a.toNat - j := by
  cases e <;> simp [leftLanes]

theorem map_fst_rightLanes (e : Endian) (a : Word) :
    (rightLanes e a).map (fun l => l.1) =
      (List.range (if e = .big then a.toNat % 4 + 1 else 4 - a.toNat % 4)).map fun j =>
        if e = .big then a.toNat - j else a.toNat + j := by
  cases e <;> simp [rightLanes]

/-- Settles O34: every load and store that passes its own tests is one access. -/
theorem ungrantedAccessStops : Obligations.UngrantedAccessStops := by
  intro s rt rs imm
  rw [trunc32_add_imm]
  intro a b leftBytes rightBytes Stops Loads Stores
  have hleft : leftBytes = (leftLanes s.cfg.endian a).map fun l => l.1 := (map_fst_leftLanes _ a).symm
  have hright : rightBytes = (rightLanes s.cfg.endian a).map fun l => l.1 := (map_fst_rightLanes _ a).symm
  rw [hleft, hright]
  have byte {i : Instr} {kind : AccessKind} {k : State → Result} (he : exec i s = scalarAccess kind .byte a k s) :=
    stops_of_scalarAccess he
  have half {i : Instr} {kind : AccessKind} {k : State → Result} (he : exec i s = scalarAccess kind .half a k s) :=
    stops_of_scalarAccess he
  have word {i : Instr} {kind : AccessKind} {k : State → Result} (he : exec i s = scalarAccess kind .word a k s) :=
    stops_of_scalarAccess he
  exact ⟨byte rfl, byte rfl, half rfl, half rfl, word rfl, word rfl, byte rfl, half rfl, word rfl, stops_of_sc,
    stops_of_loadLanes rfl, stops_of_loadLanes rfl, stops_of_storeLanes rfl, stops_of_storeLanes rfl,
    fun i m => stops_of_vectorAccess⟩

end Sys2Proof.Machine
end

section
/-! PROOFS. The rest of the encoding family: words of the worked programs (O1), one reading for every word (O3), and
what the words that are no instruction do (O4, O5). For O4 and O5 the class of a word is computed from its fields, one
lemma for each table of the decoder, and the step is said once for each class. -/

namespace Sys2Proof

variable {w : Word} {i : Instr} {z : Bool} {d : Decoded}

/-- Settles O1: the decoder is evaluated at each word. -/
theorem decodeExampleWords : Obligations.DecodeExampleWords := by
  unfold Obligations.DecodeExampleWords
  decide

/-- Settles O3: every field of the word is an operand, or is fixed by the decoder. -/
theorem encodeOfDecode : Obligations.EncodeOfDecode := fun _ _ => encode_of_decodeWord

/-! ## The tests of the decoder, when they fail -/

theorem ifZero_of_false (h : z = false) : Decoded.ifZero z i = .mustBeZero := by
  simp [Decoded.ifZero, h]

theorem ifOpers0_of_one (h : opersField w = 1) : Decoded.ifOpers0 w i = .cop2Reserved := by
  simp [Decoded.ifOpers0, h]

theorem ifNoVw_of_ne (h : vwField w ≠ 0) : Decoded.ifNoVw w d = .cop2Reserved := if_neg h

theorem ifNoVw_cop2Reserved : Decoded.ifNoVw w .cop2Reserved = .cop2Reserved := ite_self _

/-! ## Reserved words of the vector unit (R103 to R108) -/

theorem decodeWord_of_cop2 (h : opcodeField w = 0b010010#6) : decodeWord w = decodeCop2 w := by
  simp [decodeWord, h]

/-- The formats of coprocessor-2 words that have instructions (R91, R93). -/
def assignedFormats : List (BitVec 5) :=
  [0b00010#5, 0b00110#5, 0b10000#5, 0b10001#5, 0b10010#5, 0b10011#5, 0b10100#5, 0b10101#5, 0b11000#5, 0b11001#5,
    0b11010#5, 0b11011#5, 0b11100#5, 0b11101#5]

theorem decodeCop2_of_unassigned (h : rsField w ∉ assignedFormats) : decodeCop2 w = .cop2Reserved := by
  unfold decodeCop2
  dsimp only
  split <;> rename_i hs
  case h_15 => rfl
  all_goals exact absurd (hs ▸ h) (by decide)

theorem decodeCop2_of_controlMove (h : rsField w ∈ [0b00010#5, 0b00110#5]) (hl : w.extractLsb' 0 11 ≠ 0) :
    decodeCop2 w = .cop2Reserved := by
  obtain hs | hs := List.mem_pair.1 h <;> simp only [decodeCop2, hs, if_neg hl]

theorem decodeCop2_of_extractVector (hs : rsField w = 0b10000#5)
    (h : vwField w ≠ 0b01011#5 ∨ opersField w = 1) : decodeCop2 w = .cop2Reserved := by
  simp only [decodeCop2, hs]
  split
  next hg => exact ifOpers0_of_one (h.resolve_left (not_not_intro hg))
  next => rfl

theorem decodeCop2_of_insertExtract (hs : rsField w = 0b10001#5)
    (h : (vwField w ≠ 0b10011#5 ∧ vwField w ≠ 0b11011#5) ∨ opersField w = 1) :
    decodeCop2 w = .cop2Reserved := by
  simp only [decodeCop2, hs]
  split
  next hg => exact ifOpers0_of_one (h.resolve_left fun hn => hn.1 hg)
  next hg => exact ifOpers0_of_one (h.resolve_left fun hn => hn.2 hg)
  next => rfl

theorem decodeCop2_of_fixedVV (h : rsField w ∈ [0b11000#5, 0b11010#5, 0b11100#5]) (ho : opersField w = 1) :
    decodeCop2 w = .cop2Reserved := by
  unfold decodeCop2
  dsimp only
  split <;> rename_i hs
  case h_9 | h_11 | h_13 => exact ifOpers0_of_one ho
  case h_15 => rfl
  all_goals exact absurd (hs ▸ h) (by decide)

theorem decodeCop2_memIndexed (hs : rsField w = 0b10010#5) : decodeCop2 w = decodeMemIndexed w := by
  simp only [decodeCop2, hs]

theorem decodeCop2_memScalar (hs : rsField w = 0b10011#5) : decodeCop2 w = decodeMemScalar w := by
  simp only [decodeCop2, hs]

theorem decodeCop2_intVV (hs : rsField w = 0b10100#5) : decodeCop2 w = decodeIntVV w := by
  simp only [decodeCop2, hs]

theorem decodeCop2_intVS (hs : rsField w = 0b10101#5) : decodeCop2 w = decodeIntVS w := by
  simp only [decodeCop2, hs]

/-! ### V-MEM (R104) -/

theorem decodeMemIndexed_of_unassigned (h : vwField w ∉ [0b10000#5, 0b10001#5, 0b10011#5, 0b10100#5, 0b10101#5,
    0b11000#5, 0b11001#5, 0b11011#5]) : decodeMemIndexed w = .cop2Reserved := by
  unfold decodeMemIndexed
  dsimp only
  split <;> rename_i hg
  case h_9 => rfl
  all_goals exact absurd (hg ▸ h) (by decide)

theorem decodeMemIndexed_of_opers (ho : opersField w = 1) : decodeMemIndexed w = .cop2Reserved := by
  unfold decodeMemIndexed
  dsimp only
  split
  case h_9 => rfl
  all_goals exact ifOpers0_of_one ho

theorem decodeMemScalar_of_unassigned (h : vwField w ∈ [0b00010#5, 0b00110#5, 0b00111#5, 0b01010#5, 0b01100#5,
    0b01101#5, 0b01110#5, 0b01111#5, 0b10010#5, 0b10110#5, 0b10111#5, 0b11010#5, 0b11100#5, 0b11101#5, 0b11110#5,
    0b11111#5]) : decodeMemScalar w = .cop2Reserved := by
  unfold decodeMemScalar
  dsimp only
  split <;> rename_i hg
  case h_17 => rfl
  all_goals exact absurd (hg ▸ h) (by decide)

theorem decodeMemScalar_of_opers (ho : opersField w = 1) : decodeMemScalar w = .cop2Reserved := by
  unfold decodeMemScalar
  dsimp only
  split
  case h_17 => rfl
  all_goals exact ifOpers0_of_one ho

/-! ### V-INT (R105, R107) -/

/-- The function codes of V-INT without an instruction (R105, Table 6). -/
def reservedIntCodes : List (BitVec 5) :=
  [0b00010#5, 0b00011#5, 0b00111#5, 0b01010#5, 0b01111#5, 0b10010#5, 0b10011#5, 0b11000#5, 0b11100#5]

/-- The function codes of the flag instructions, whose `vw` field is fixed at zero (R97, R107). -/
def flagCodes : List (BitVec 5) := [0b00100#5, 0b00101#5, 0b00110#5]

/-- The function codes of V-INT that have a `.vs` form and no `.sv` form (R94, Table 6). -/
def vsOnlyCodes : List (BitVec 5) :=
  [0b00110#5, 0b01110#5, 0b10000#5, 0b10001#5, 0b10100#5, 0b10101#5, 0b10110#5, 0b10111#5, 0b11001#5, 0b11010#5,
    0b11011#5, 0b11101#5, 0b11110#5, 0b11111#5]

theorem decodeIntVV_of_reserved (h : rdField w ∈ reservedIntCodes) : decodeIntVV w = .cop2Reserved := by
  unfold decodeIntVV
  dsimp only
  split <;> rename_i hf
  case h_24 => rfl
  all_goals exact absurd (hf ▸ h) (by decide)

theorem decodeIntVS_of_reserved (h : rdField w ∈ reservedIntCodes) : decodeIntVS w = .cop2Reserved := by
  unfold decodeIntVS
  dsimp only
  split <;> rename_i hf
  case h_24 => rfl
  all_goals exact absurd (hf ▸ h) (by decide)

theorem decodeIntVV_of_flag (h : rdField w ∈ flagCodes) (hg : vwField w ≠ 0) : decodeIntVV w = .cop2Reserved := by
  unfold decodeIntVV
  dsimp only
  split <;> rename_i hf
  case h_3 | h_4 | h_5 => exact ifNoVw_of_ne hg
  case h_24 => rfl
  all_goals exact absurd (hf ▸ h) (by decide)

theorem decodeIntVS_of_flag (h : rdField w ∈ flagCodes) (hg : vwField w ≠ 0) : decodeIntVS w = .cop2Reserved := by
  unfold decodeIntVS
  dsimp only
  split <;> rename_i hf
  case h_3 | h_4 | h_5 => exact ifNoVw_of_ne hg
  case h_24 => rfl
  all_goals exact absurd (hf ▸ h) (by decide)

theorem decodeIntVV_of_opers (ho : opersField w = 1) : decodeIntVV w = .cop2Reserved := by
  unfold decodeIntVV
  dsimp only
  split
  case h_3 | h_4 | h_5 => rw [ifOpers0_of_one ho, ifNoVw_cop2Reserved]
  case h_24 => rfl
  all_goals exact ifOpers0_of_one ho

theorem decodeIntVS_of_opers (ho : opersField w = 1) (h : rdField w ∈ vsOnlyCodes) :
    decodeIntVS w = .cop2Reserved := by
  unfold decodeIntVS
  dsimp only
  split <;> rename_i hf
  case h_5 => rw [ifOpers0_of_one ho, ifNoVw_cop2Reserved]
  case h_24 => rfl
  case h_1 | h_2 | h_3 | h_4 | h_6 | h_7 | h_8 | h_9 | h_10 => exact absurd (hf ▸ h) (by decide)
  all_goals exact ifOpers0_of_one ho

/-! ## The other words that are no instruction (R108, R334, R446 to R449) -/

/-- Bit 25 is the high bit of the format (R91). -/
theorem high_rsField (w : Word) : (rsField w).extractLsb' 4 1 = w.extractLsb' 25 1 := by
  apply BitVec.eq_of_getLsbD_eq
  intro k hk
  simp only [rsField, BitVec.getLsbD_extractLsb']
  interval_cases k
  rfl

/-- A coprocessor-2 word with bit 25 clear that is no control-register move has no assigned format (R108). -/
theorem not_mem_assignedFormats (hb : w.extractLsb' 25 1 = 0) (h : rsField w ∉ [0b00010#5, 0b00110#5]) :
    rsField w ∉ assignedFormats := by
  have key : ∀ f : BitVec 5, f.extractLsb' 4 1 = 0 → f ∉ [0b00010#5, 0b00110#5] → f ∉ assignedFormats := by decide
  exact key _ ((high_rsField w).trans hb) h

theorem decodeWord_of_cop2Access (h : opcodeField w ∈ [0b110010#6, 0b110110#6, 0b111010#6, 0b111110#6]) :
    decodeWord w = .cop2Reserved := by
  simp only [List.mem_cons, List.not_mem_nil, or_false] at h
  obtain ho | ho | ho | ho := h <;> simp only [decodeWord, ho]

theorem decodeWord_of_cop1 (h : opcodeField w ∈ [0b010001#6, 0b110001#6, 0b110101#6, 0b111001#6, 0b111101#6]) :
    decodeWord w = .cop1 := by
  simp only [List.mem_cons, List.not_mem_nil, or_false] at h
  obtain ho | ho | ho | ho | ho := h <;> simp only [decodeWord, ho]

theorem decodeWord_of_cop3 (h : opcodeField w ∈ [0b010011#6, 0b110011#6, 0b110111#6, 0b111011#6, 0b111111#6]) :
    decodeWord w = .cop3 := by
  simp only [List.mem_cons, List.not_mem_nil, or_false] at h
  obtain ho | ho | ho | ho | ho := h <;> simp only [decodeWord, ho]

theorem decodeWord_of_cop0 (h : opcodeField w = 0b010000#6) : decodeWord w = .cop0 := by
  simp only [decodeWord, h]

theorem decodeWord_of_special (h : opcodeField w = 0b000000#6) : decodeWord w = decodeSpecial w := by
  simp only [decodeWord, h]

theorem decodeWord_of_regimm (h : opcodeField w = 0b000001#6) : decodeWord w = decodeRegimm w := by
  simp only [decodeWord, h]

theorem decodeWord_of_unassigned (h : opcodeField w ∈ [0b011000#6, 0b011001#6, 0b011010#6, 0b011011#6, 0b011100#6,
    0b011101#6, 0b011110#6, 0b011111#6, 0b100111#6, 0b101100#6, 0b101101#6, 0b101111#6, 0b110100#6, 0b111100#6]) :
    decodeWord w = .reserved := by
  unfold decodeWord
  dsimp only
  split <;> rename_i ho
  case h_51 => rfl
  all_goals exact absurd (ho ▸ h) (by decide)

theorem decodeSpecial_of_unassigned (h : functField w ∈ [1#6, 5, 10, 11, 14, 20, 21, 22, 23, 28, 29, 30, 31, 40, 41,
    44, 45, 46, 47, 53, 55, 56, 57, 58, 59, 60, 61, 62, 63]) : decodeSpecial w = .reserved := by
  unfold decodeSpecial
  dsimp only
  split <;> rename_i hf
  case h_36 => rfl
  all_goals exact absurd (hf ▸ h) (by decide)

theorem decodeRegimm_of_unassigned (h : rtField w ∈ [4#5, 5, 6, 7, 13, 15, 20, 21, 22, 23, 24, 25, 26, 27, 28, 29, 30,
    31]) : decodeRegimm w = .reserved := by
  unfold decodeRegimm
  dsimp only
  split <;> rename_i ht
  case h_15 => rfl
  all_goals exact absurd (ht ▸ h) (by decide)

/-! ### Must-be-zero fields (R334) -/

theorem decodeSpecial_of_rs (h : functField w ∈ [0#6, 2, 3]) (hrs : rsField w ≠ 0) :
    decodeSpecial w = .mustBeZero := by
  have hz : (rsField w == 0) = false := beq_eq_false_iff_ne.2 hrs
  simp only [List.mem_cons, List.not_mem_nil, or_false] at h
  obtain hf | hf | hf := h <;> simp only [decodeSpecial, hf] <;> exact ifZero_of_false hz

theorem decodeSpecial_of_sa (h : functField w ∈ [4#6, 6, 7, 32, 33, 34, 35, 36, 37, 38, 39, 42, 43])
    (hsa : saField w ≠ 0) : decodeSpecial w = .mustBeZero := by
  have hz : (saField w == 0) = false := beq_eq_false_iff_ne.2 hsa
  unfold decodeSpecial
  dsimp only
  split <;> rename_i hf
  case h_4 | h_5 | h_6 | h_20 | h_21 | h_22 | h_23 | h_24 | h_25 | h_26 | h_27 | h_28 | h_29 =>
    exact ifZero_of_false hz
  case h_36 =>
    simp only [List.mem_cons, List.not_mem_nil, or_false] at h
    tauto
  all_goals exact absurd (hf ▸ h) (by decide)

theorem decodeSpecial_of_rt_rd_sa (h : functField w ∈ [8#6, 17, 19])
    (hn : rtField w ≠ 0 ∨ rdField w ≠ 0 ∨ saField w ≠ 0) : decodeSpecial w = .mustBeZero := by
  have hz : (rtField w == 0 && rdField w == 0 && saField w == 0) = false := by
    simpa [or_iff_not_imp_left] using hn
  simp only [List.mem_cons, List.not_mem_nil, or_false] at h
  obtain hf | hf | hf := h <;> simp only [decodeSpecial, hf] <;> exact ifZero_of_false hz

theorem decodeSpecial_of_rt_sa (hf : functField w = 9) (hn : rtField w ≠ 0 ∨ saField w ≠ 0) :
    decodeSpecial w = .mustBeZero := by
  have hz : (rtField w == 0 && saField w == 0) = false := by simpa [or_iff_not_imp_left] using hn
  simp only [decodeSpecial, hf]
  exact ifZero_of_false hz

theorem decodeSpecial_of_rs_rt_rd_sa (hf : functField w = 15)
    (hn : rsField w ≠ 0 ∨ rtField w ≠ 0 ∨ rdField w ≠ 0 ∨ saField w ≠ 0) : decodeSpecial w = .mustBeZero := by
  have hz : (rsField w == 0 && rtField w == 0 && rdField w == 0 && saField w == 0) = false := by
    simpa [or_iff_not_imp_left] using hn
  simp only [decodeSpecial, hf]
  exact ifZero_of_false hz

theorem decodeSpecial_of_rs_rt_sa (h : functField w ∈ [16#6, 18])
    (hn : rsField w ≠ 0 ∨ rtField w ≠ 0 ∨ saField w ≠ 0) : decodeSpecial w = .mustBeZero := by
  have hz : (rsField w == 0 && rtField w == 0 && saField w == 0) = false := by
    simpa [or_iff_not_imp_left] using hn
  obtain hf | hf := List.mem_pair.1 h <;> simp only [decodeSpecial, hf] <;> exact ifZero_of_false hz

theorem decodeSpecial_of_rd_sa (h : functField w ∈ [24#6, 25, 26, 27]) (hn : rdField w ≠ 0 ∨ saField w ≠ 0) :
    decodeSpecial w = .mustBeZero := by
  have hz : (rdField w == 0 && saField w == 0) = false := by simpa [or_iff_not_imp_left] using hn
  simp only [List.mem_cons, List.not_mem_nil, or_false] at h
  obtain hf | hf | hf | hf := h <;> simp only [decodeSpecial, hf] <;> exact ifZero_of_false hz

theorem decodeWord_of_lui (ho : opcodeField w = 0b001111#6) (hrs : rsField w ≠ 0) :
    decodeWord w = .mustBeZero := by
  simp only [decodeWord, ho]
  exact ifZero_of_false (beq_eq_false_iff_ne.2 hrs)

theorem decodeWord_of_zeroBranch (h : opcodeField w ∈ [0b000110#6, 0b000111#6, 0b010110#6, 0b010111#6])
    (hrt : rtField w ≠ 0) : decodeWord w = .mustBeZero := by
  have hz : (rtField w == 0) = false := beq_eq_false_iff_ne.2 hrt
  simp only [List.mem_cons, List.not_mem_nil, or_false] at h
  obtain ho | ho | ho | ho := h <;> simp only [decodeWord, ho] <;> exact ifZero_of_false hz

end Sys2Proof

namespace Sys2Proof.Machine

variable {s : State} {w : Word}

/-! ## The step, for each class of words -/

/-- A step runs what the word that it fetches decodes to (R410). -/
theorem step_of_fetches (h : Fetches s w) : step s = runDecoded (decodeWord w) w s := by
  obtain ⟨hr, ha, hf, rfl⟩ := h
  simp [step, fetchAndRun, hr, ha, hf, aligned, Size.bytes, decodeBytes, State.fetchBytes, State.fetchedWord,
    State.memRead]

theorem step_of_cop2Reserved (h : Fetches s w) (hd : decodeWord w = .cop2Reserved) :
    step s = if s.cu2 then s.raise .reservedInstruction (.word w) else s.raiseCpU 2 := by
  rw [step_of_fetches h, hd, runDecoded]

/-- Settles O4: the words of every clause decode to the reserved class. -/
theorem reservedVectorWordsTrap : Obligations.ReservedVectorWordsTrap := by
  intro s w format f g opers hf ho h
  have hd : decodeCop2 w = .cop2Reserved := by
    obtain h | ⟨hs, h⟩ | ⟨hs, h⟩ | ⟨hs, h⟩ | ⟨hs, h⟩ | ⟨hs, h⟩ | ⟨hs, h1, h⟩ | ⟨hs, h⟩ | ⟨hs, h⟩ | ⟨hs, h⟩ |
      ⟨hs, h, hg⟩ | ⟨hs, h⟩ := h
    · have key : ∀ c ∈ [0b10110#5, 0b10111#5, 0b11110#5, 0b11111#5], c ∉ assignedFormats := by decide
      exact decodeCop2_of_unassigned (key _ h)
    · exact (decodeCop2_memIndexed hs).trans (decodeMemIndexed_of_unassigned h)
    · exact (decodeCop2_memScalar hs).trans (decodeMemScalar_of_unassigned h)
    · obtain hs | hs := List.mem_pair.1 hs
      · exact (decodeCop2_memIndexed hs).trans (decodeMemIndexed_of_opers h)
      · exact (decodeCop2_memScalar hs).trans (decodeMemScalar_of_opers h)
    · obtain hs | hs := List.mem_pair.1 hs
      · exact (decodeCop2_intVV hs).trans (decodeIntVV_of_reserved h)
      · exact (decodeCop2_intVS hs).trans (decodeIntVS_of_reserved h)
    · exact (decodeCop2_intVV hs).trans (decodeIntVV_of_opers h)
    · exact (decodeCop2_intVS hs).trans (decodeIntVS_of_opers h1 h)
    · exact decodeCop2_of_fixedVV hs h
    · exact decodeCop2_of_extractVector hs h
    · exact decodeCop2_of_insertExtract hs h
    · obtain hs | hs := List.mem_pair.1 hs
      · exact (decodeCop2_intVV hs).trans (decodeIntVV_of_flag h hg)
      · exact (decodeCop2_intVS hs).trans (decodeIntVS_of_flag h hg)
    · exact decodeCop2_of_controlMove hs h
  rw [step_of_cop2Reserved hf ((decodeWord_of_cop2 ho).trans hd)]
  by_cases hc : s.cu2 = true
  · simp only [if_pos hc]
    rfl
  · simp only [if_neg hc]
    rfl

/-- Settles O5: each class of words is one class of the decoder. -/
theorem otherWordsStop : Obligations.OtherWordsStop := by
  intro s w major rs rt rd sa funct special trapRecord mustBeZero hf
  have step_of {d : Decoded} (hd : decodeWord w = d) : step s = runDecoded d w s := hd ▸ step_of_fetches hf
  refine ⟨fun h => ?_, fun h => ?_, fun h => step_of (decodeWord_of_cop3 h),
    fun h => step_of (d := .reserved) ?_, fun h => step_of (d := .mustBeZero) ?_,
    fun h => step_of (decodeWord_of_cop0 h)⟩
  · have hd : decodeWord w = .cop2Reserved := by
      obtain ⟨ho, hb, hs⟩ | h := h
      · exact (decodeWord_of_cop2 ho).trans (decodeCop2_of_unassigned (not_mem_assignedFormats hb hs))
      · exact decodeWord_of_cop2Access h
    rw [step_of_cop2Reserved hf hd]
    split_ifs <;> rfl
  · have hd := step_of (decodeWord_of_cop1 h)
    exact ⟨fun hn => hd.trans (if_neg (by simp [hn])), fun hp => hd.trans (if_pos hp)⟩
  · obtain h | ⟨ho, h⟩ | ⟨ho, h⟩ := h
    · exact decodeWord_of_unassigned h
    · exact (decodeWord_of_special ho).trans (decodeSpecial_of_unassigned h)
    · exact (decodeWord_of_regimm ho).trans (decodeRegimm_of_unassigned h)
  · obtain ⟨ho, h, hn⟩ | ⟨ho, h, hn⟩ | ⟨ho, h, hn⟩ | ⟨ho, h, hn⟩ | ⟨ho, h, hn⟩ | ⟨ho, h, hn⟩ | ⟨ho, h, hn⟩ |
      ⟨ho, hn⟩ | ⟨ho, hn⟩ := h
    · exact (decodeWord_of_special ho).trans (decodeSpecial_of_rs h hn)
    · exact (decodeWord_of_special ho).trans (decodeSpecial_of_sa h hn)
    · exact (decodeWord_of_special ho).trans (decodeSpecial_of_rt_rd_sa h hn)
    · exact (decodeWord_of_special ho).trans (decodeSpecial_of_rt_sa h hn)
    · exact (decodeWord_of_special ho).trans (decodeSpecial_of_rs_rt_rd_sa h hn)
    · exact (decodeWord_of_special ho).trans (decodeSpecial_of_rs_rt_sa h hn)
    · exact (decodeWord_of_special ho).trans (decodeSpecial_of_rd_sa h hn)
    · exact decodeWord_of_lui ho hn
    · exact decodeWord_of_zeroBranch ho hn

end Sys2Proof.Machine
end

section
/-! PROOFS. The control register numbers that `cfvu` and `ctvu` refuse. -/

namespace Sys2Proof.Machine

variable {s : State} {cs : CReg}

/-- No number outside Table 1 is one of the arms of `execCfvu` that read a register (R123). -/
theorem execCfvu_of_invalid (rt : Reg) (hc : s.cu2 = true) (h : cs ∉ [(0 : CReg), 1, 2, 4, 8, 12]) :
    execCfvu rt cs s = .refused .invalidControlRegister := by
  unfold execCfvu
  rw [if_neg (by simp [hc])]
  split
  case h_7 => rfl
  all_goals exact absurd (by decide) h

/-- No number outside Table 1 is one of the arms of `execCtvu` that name a register (R123). -/
theorem execCtvu_of_invalid (rt : Reg) (hc : s.cu2 = true) (h : cs ∉ [(0 : CReg), 1, 2, 4, 8, 12]) :
    execCtvu rt cs s = .refused .invalidControlRegister := by
  unfold execCtvu
  rw [if_neg (by simp [hc])]
  split
  case h_7 => rfl
  all_goals exact absurd (by decide) h

/-- `vrev` and `vcount` are read only (R125). -/
theorem execCtvu_of_readOnly (rt : Reg) (hc : s.cu2 = true) (h : cs ∈ [(0 : CReg), 1]) :
    execCtvu rt cs s = .refused .readOnlyControlRegister := by
  obtain rfl | rfl := List.mem_pair.1 h
  · simp [execCtvu, hc]
  · simp [execCtvu, hc]

/-- Settles O42: `cfvu` and `ctvu` of a number outside Table 1, and `ctvu` of a read-only register. -/
theorem otherControlRegistersAreRefused : Obligations.OtherControlRegistersAreRefused := fun _ rt _ hc =>
  ⟨fun h => ⟨execCfvu_of_invalid rt hc h, execCtvu_of_invalid rt hc h⟩, execCtvu_of_readOnly rt hc⟩

end Sys2Proof.Machine
end

section
/-! PROOFS. Insert and extract: the ranges of the index of `vext.v`, and the one element of `vins.s` and `vext.s`. -/

namespace Sys2Proof.Machine

variable {s : State} {vd vt : VReg} {rt rd : Reg}

/-- The index is the low eight bits of its register (R132). -/
theorem elementIndex_eq_mod (s : State) (rd : Reg) : s.elementIndex rd = (s.x rd).toNat % 256 := by
  simp [State.elementIndex]

/-- An instruction whose last act is the sequential advance of a state that has neither trapped nor moved the program
counter. -/
theorem completes_of_advance {i : Instr} {u : State} {post : State → Prop} (he : exec i s = .next u.advance)
    (ht : u.trap = s.trap) (hn : u.npc = s.npc) (hp : post u.advance) : Completes i s post :=
  ⟨u.advance, he, ht, ⟨hn, congrArg (· + 4) hn, rfl⟩, unchanged_of_exec he, hp⟩

/-! ## `vext.v` (R133, R134) -/

theorem exec_vextV (s : State) (vd vt : VReg) (rd : Reg) : exec (.vextV vd vt rd) s = execVextV vd vt rd s := rfl

/-- What `vext.v` answers once its prologue has passed, by the number of elements and the index. -/
theorem exec_vextV_of_ready (h : VectorReady (.vextV vd vt rd) s) :
    exec (.vextV vd vt rd) s =
      if s.vlr.toNat = 0 then
        if 32 < (s.x rd).toNat % 256 then .refused .extractRangeUnstated else .next s.advance
      else if 32 < (s.vlr.toNat + (s.x rd).toNat % 256) % 256 then
        s.raise .vectorOperation (.word (encode (.vextV vd vt rd)))
      else if 32 < s.vlr.toNat + (s.x rd).toNat % 256 then .refused .extractIndexWrap
      else .next (s.setV vd s.vlr.toNat fun k => s.v vt ((s.x rd).toNat % 256 + k)).advance := by
  rw [exec_vextV, execVextV, vectorPrologue_of_ready s _ [vd, vt] _ h.usable h.present h.length, elementIndex_eq_mod]

/-- A register that an instruction over no elements names as its destination keeps every element (R27, R30). -/
theorem elementsAre_advance_of_zero (hn : s.vlr.toNat = 0) (vw : VReg) (f : Nat → Word) :
    ElementsAre s s.advance vw f := by
  intro k _
  rw [hn, if_neg (Nat.not_lt_zero k), State.v_advance]
  split_ifs with hz
  · rw [hz]
    exact State.v_zero s k
  · rfl

theorem elementsAre_setV_advance (s : State) (vw : VReg) (f : Nat → Word) :
    ElementsAre s (s.setV vw s.vlr.toNat f).advance vw f := by
  intro k hk
  rw [State.v_advance, State.v_setV_same s vw _ f hk]

/-- A window that lies inside the register moves to the front, also the empty one. -/
theorem completes_vextV (h : VectorReady (.vextV vd vt rd) s)
    (hw : s.vlr.toNat + (s.x rd).toNat % 256 ≤ 32) :
    Completes (.vextV vd vt rd) s fun t =>
      ElementsAre s t vd fun k => s.v vt ((s.x rd).toNat % 256 + k) := by
  have he := exec_vextV_of_ready h
  by_cases hn : s.vlr.toNat = 0
  · rw [if_pos hn, if_neg (by omega)] at he
    exact completes_of_advance he rfl rfl (elementsAre_advance_of_zero hn vd _)
  · rw [if_neg hn, if_neg (by omega), if_neg (by omega)] at he
    exact completes_of_advance he rfl rfl (elementsAre_setV_advance s vd _)

theorem raises_vextV (h : VectorReady (.vextV vd vt rd) s) (hn : 0 < s.vlr.toNat)
    (hw : 32 < (s.vlr.toNat + (s.x rd).toNat % 256) % 256) :
    Raises (.vextV vd vt rd) s .vectorOperation (.word (encode (.vextV vd vt rd))) := by
  have he := exec_vextV_of_ready h
  rwa [if_neg (by omega), if_pos hw] at he

theorem exec_vextV_of_wrap (h : VectorReady (.vextV vd vt rd) s) (hn : 0 < s.vlr.toNat)
    (hw : 32 < s.vlr.toNat + (s.x rd).toNat % 256) (hm : (s.vlr.toNat + (s.x rd).toNat % 256) % 256 ≤ 32) :
    exec (.vextV vd vt rd) s = .refused .extractIndexWrap := by
  rw [exec_vextV_of_ready h, if_neg (by omega), if_neg (by omega), if_pos hw]

theorem exec_vextV_of_empty_beyond (h : VectorReady (.vextV vd vt rd) s) (hn : s.vlr.toNat = 0)
    (hi : 32 < (s.x rd).toNat % 256) : exec (.vextV vd vt rd) s = .refused .extractRangeUnstated := by
  rw [exec_vextV_of_ready h, if_pos hn, if_pos hi]

/-- Settles O43: the window fits, the sum exceeds 32, it wraps, or the window is empty and the index exceeds 32. -/
theorem extractVector : Obligations.ExtractVector := fun _ _ _ _ h =>
  ⟨completes_vextV h, raises_vextV h, exec_vextV_of_wrap h, exec_vextV_of_empty_beyond h⟩

/-! ## `vins.s` and `vext.s` (R131, R135, R136) -/

/-- The instruction's own rule runs for an index below 32, whatever `vlr` is. -/
theorem elementPrologue_of_lt (i : Instr) (k : Nat → Result) (hc : s.cu2 = true) (hr : vd.toNat < s.cfg.nvreg)
    (hi : (s.x rd).toNat % 256 < 32) : s.elementPrologue i vd rd k = k ((s.x rd).toNat % 256) := by
  rw [← elementIndex_eq_mod] at hi ⊢
  simp [State.elementPrologue, hc, mvl, Nat.not_le.2 hr, Nat.not_le.2 hi]

theorem elementPrologue_of_ge (i : Instr) (k : Nat → Result) (hc : s.cu2 = true) (hr : vd.toNat < s.cfg.nvreg)
    (hi : 32 ≤ (s.x rd).toNat % 256) :
    s.elementPrologue i vd rd k = s.raise .vectorOperation (.word (encode i)) := by
  rw [← elementIndex_eq_mod] at hi
  simp [State.elementPrologue, hc, mvl, Nat.not_le.2 hr, hi]

theorem raises_of_elementPrologue {i : Instr} {k : Nat → Result} (he : exec i s = s.elementPrologue i vd rd k)
    (hc : s.cu2 = true) (hr : vd.toNat < s.cfg.nvreg) (hi : 32 ≤ (s.x rd).toNat % 256) :
    Raises i s .vectorOperation (.word (encode i)) :=
  he.trans (elementPrologue_of_ge i k hc hr hi)

/-- Reading the register of which one element was written (R27). -/
theorem State.v_setVWhere_beq (s : State) (j : VReg) (n : Nat) (w : Word) {k : Nat} (hk : k < 32) :
    (s.setVWhere j (fun m => m == n) fun _ => w).v j k = if j = 0 then 0 else if k = n then w else s.v j k := by
  simp [State.v_setVWhere s j j _ _ k hk]

theorem completes_vinsS (hc : s.cu2 = true) (hr : vd.toNat < s.cfg.nvreg) (hi : (s.x rd).toNat % 256 < 32) :
    Completes (.vinsS rt vd rd) s fun t => ∀ k, k < 32 →
      t.v vd k = if vd = 0 then 0 else if k = (s.x rd).toNat % 256 then s.x rt else s.v vd k := by
  have he := exec_vinsS s rt vd rd
  rw [execVinsS, elementPrologue_of_lt _ _ hc hr hi] at he
  refine completes_of_advance he rfl rfl fun k hk => ?_
  rw [State.v_advance, State.v_setVWhere_beq s vd _ _ hk]

theorem writes_vextS (hc : s.cu2 = true) (hr : vd.toNat < s.cfg.nvreg) (hi : (s.x rd).toNat % 256 < 32) :
    Writes (.vextS rt vd rd) s rt (s.v vd ((s.x rd).toNat % 256)) := by
  have he := exec_vextS s rt vd rd
  rw [execVextS, elementPrologue_of_lt _ _ hc hr hi] at he
  exact writes_of_writeResult _ s rt _ he rfl

/-- Settles O44: below 32 the rule of the instruction runs for its index, from 32 on the prologue raises. -/
theorem insertAndExtractScalar : Obligations.InsertAndExtractScalar := fun s rt vd rd hc hr =>
  ⟨completes_vinsS hc hr, writes_vextS hc hr,
    fun hi => ⟨raises_of_elementPrologue (exec_vinsS s rt vd rd) hc hr hi,
      raises_of_elementPrologue (exec_vextS s rt vd rd) hc hr hi⟩⟩

end Sys2Proof.Machine
end

section
/-! PROOFS. Auto-increment with the base as increment (O50). -/

namespace Sys2Proof.Machine

variable {s : State} {i : Instr}

/-- Once the prologue has passed, `VecMem` refuses an increment register that is the base (R145, decision D26) before
it looks at an address, so also with `vlr = 0` and at a misaligned base. -/
theorem exec_of_sameRegister {m : VectorAccess} (hm : i.vectorAccess = some m) (hs : m.mode.sameRegister = true)
    (hv : VectorReady i s) : exec i s = .refused .autoIncrementSameRegister := by
  obtain ⟨tr, un, he, -⟩ := exec_eq_vecMem s hm
  have hp := hv.present
  rw [vectorRegisters_of_vectorAccess hm] at hp
  rw [he, vecMem, vectorPrologue_of_ready s i _ _ hv.usable hp hv.length, if_pos hs]

/-- A unit-stride access names one vector register, so its prologue asks no more than that this one is present. -/
theorem vectorReady_of_unit {kind : AccessKind} {vd : VReg} {rd rt : Reg} {size : Size}
    (hm : i.vectorAccess = some ⟨kind, vd, .unit rd rt, size⟩) (hc : s.cu2 = true) (hr : vd.toNat < s.cfg.nvreg)
    (hl : s.vlr.toNat ≤ 32) : VectorReady i s := by
  refine ⟨hc, ?_, hl⟩
  rw [vectorRegisters_of_vectorAccess hm]
  exact List.forall_mem_singleton.2 hr

/-- Settles O50: the eight instructions are unit-stride accesses whose two scalar registers are the same. -/
theorem autoIncrementSameRegisterIsRefused : Obligations.AutoIncrementSameRegisterIsRefused := by
  intro s vd rd hc hr hl
  have refused {i : Instr} {kind : AccessKind} {size : Size}
      (hm : i.vectorAccess = some ⟨kind, vd, .unit rd rd, size⟩) :
      exec i s = .refused .autoIncrementSameRegister :=
    exec_of_sameRegister hm (beq_self_eq_true rd) (vectorReady_of_unit hm hc hr hl)
  simp only [List.forall_mem_cons]
  exact ⟨refused rfl, refused rfl, refused rfl, refused rfl, refused rfl, refused rfl, refused rfl, refused rfl,
    nofun⟩

end Sys2Proof.Machine
end

section
/-! PROOFS. Vector integer instructions: their results by operand form (O51), and the sticky overflow bits of `add` and
`sub` (O52). -/

namespace Sys2Proof.Machine

variable {s : State} {i : Instr} {vw vd vt : VReg} {rt : Reg}

/-! ## Results, by operand form (R180, R181) -/

theorem vectorWrites_vv (f : Word → Word → Word)
    (he : exec i s = vecInt i i.vectorRegisters vw (s.operandsVV vd vt) f s) (hf : (i.footprint s).vregs = [vw]) :
    VectorWrites i s vw fun k => f (s.v vd k) (s.v vt k) :=
  vectorWrites_of_vecInt i s _ vw _ f he rfl hf

theorem vectorWrites_vs (f : Word → Word → Word)
    (he : exec i s = vecInt i i.vectorRegisters vw (s.operandsVS vd rt) f s) (hf : (i.footprint s).vregs = [vw]) :
    VectorWrites i s vw fun k => f (s.v vd k) (s.x rt) :=
  vectorWrites_of_vecInt i s _ vw _ f he rfl hf

theorem vectorWrites_sv (f : Word → Word → Word)
    (he : exec i s = vecInt i i.vectorRegisters vw (s.operandsSV rt vd) f s) (hf : (i.footprint s).vregs = [vw]) :
    VectorWrites i s vw fun k => f (s.x rt) (s.v vd k) :=
  vectorWrites_of_vecInt i s _ vw _ f he rfl hf

/-- Settles O51: the integer formulas of the statement are the bit-vector operations of the model, and each instruction
is `VecInt` with its operation and operand form. -/
theorem vectorIntegerResults : Obligations.VectorIntegerResults := by
  intro s vw vd vt rt
  simp only [trunc32_add, trunc32_sub, toNat_mod_32, ofNat_mul_two_pow, ofNat_div_two_pow, trunc32_div_two_pow]
  exact ⟨vectorWrites_vv (· &&& ·) rfl rfl, vectorWrites_vs (· &&& ·) rfl rfl,
    vectorWrites_vv (· ||| ·) rfl rfl, vectorWrites_vs (· ||| ·) rfl rfl,
    vectorWrites_vv (· ^^^ ·) rfl rfl, vectorWrites_vs (· ^^^ ·) rfl rfl,
    vectorWrites_vv (fun a b => ~~~(a ||| b)) rfl rfl, vectorWrites_vs (fun a b => ~~~(a ||| b)) rfl rfl,
    vectorWrites_vv (· + ·) rfl rfl, vectorWrites_vs (· + ·) rfl rfl,
    vectorWrites_vv (· - ·) rfl rfl, vectorWrites_vs (· - ·) rfl rfl, vectorWrites_sv (· - ·) rfl rfl,
    vectorWrites_vv (fun a b => a <<< shiftAmount b) rfl rfl, vectorWrites_vs (fun a b => a <<< shiftAmount b) rfl rfl,
    vectorWrites_sv (fun a b => a <<< shiftAmount b) rfl rfl,
    vectorWrites_vv (fun a b => a.sshiftRight (shiftAmount b)) rfl rfl,
    vectorWrites_vs (fun a b => a.sshiftRight (shiftAmount b)) rfl rfl,
    vectorWrites_sv (fun a b => a.sshiftRight (shiftAmount b)) rfl rfl,
    vectorWrites_vv (fun a b => a >>> shiftAmount b) rfl rfl, vectorWrites_vs (fun a b => a >>> shiftAmount b) rfl rfl,
    vectorWrites_sv (fun a b => a >>> shiftAmount b) rfl rfl⟩

/-! ## The sticky overflow bits (R182, R183) -/

section Overflow

variable {operands : Nat → Word × Word}

/-- `VecInt` with overflow flags completes: its destination holds the values of `f`, and a bit of `vovf` is set when it
was before or the test of its element below `vlr` says so. -/
theorem completes_of_vecIntOverflow {f : Word → Word → Word} {overflows : Word → Word → Bool}
    (he : exec i s = vecIntOverflow i i.vectorRegisters vw operands f overflows s) (h : VectorReady i s) :
    Completes i s fun t => (ElementsAre s t vw fun k => f (operands k).1 (operands k).2) ∧
      ∀ k, k < 32 → (t.vovf.getLsbD k = true ↔ s.vovf.getLsbD k = true ∨
        (k < s.vlr.toNat ∧ overflows (operands k).1 (operands k).2 = true)) := by
  rw [vecIntOverflow, vectorPrologue_of_ready s i _ _ h.usable h.present h.length] at he
  refine completes_of_advance he rfl rfl ⟨elementsAre_setV_advance s vw _, fun k hk => ?_⟩
  rw [State.vovf_advance, State.getLsbD_orVovf _ _ _ _ hk, State.vovf_setV]
  simp only [Bool.or_eq_true, Bool.and_eq_true, decide_eq_true_eq]

/-- The instruction completes with the exact results wrapped to 32 bits, and sets the bits of `vovf` whose exact result
is no signed 32-bit number. -/
def EndsExactly (i : Instr) (s : State) (vw : VReg) (exact : Nat → Int) : Prop :=
  VectorReady i s → Completes i s fun t =>
    (ElementsAre s t vw fun k => trunc32 (exact k)) ∧
    ∀ k, k < 32 → (t.vovf.getLsbD k = true ↔ s.vovf.getLsbD k = true ∨
      (k < s.vlr.toNat ∧ ¬ (-(2 ^ 31) ≤ exact k ∧ exact k < 2 ^ 31)))

theorem endsExactly_add
    (he : exec i s = vecIntOverflow i i.vectorRegisters vw operands (fun a b => a + b) addOverflows s) :
    EndsExactly i s vw fun k => (operands k).1.toInt + (operands k).2.toInt := by
  intro h
  simp only [trunc32_add, ← addOverflows_iff]
  exact completes_of_vecIntOverflow he h

theorem endsExactly_sub
    (he : exec i s = vecIntOverflow i i.vectorRegisters vw operands (fun a b => a - b) subOverflows s) :
    EndsExactly i s vw fun k => (operands k).1.toInt - (operands k).2.toInt := by
  intro h
  simp only [trunc32_sub, ← subOverflows_iff]
  exact completes_of_vecIntOverflow he h

end Overflow

/-- Settles O52: the wrapped result is the word the model computes, and its overflow test is the range of the exact
result. -/
theorem vectorOverflow : Obligations.VectorOverflow := fun s _ vd vt rt =>
  ⟨endsExactly_add (operands := s.operandsVV vd vt) rfl, endsExactly_add (operands := s.operandsVS vd rt) rfl,
    endsExactly_sub (operands := s.operandsVV vd vt) rfl, endsExactly_sub (operands := s.operandsVS vd rt) rfl,
    endsExactly_sub (operands := s.operandsSV rt vd) rfl⟩

end Sys2Proof.Machine
end

section
/-! PROOFS. Set and flag instructions (O53, O54), and the conditional moves (O55, O56). -/

namespace Sys2Proof.Machine

variable {s : State} {i : Instr} {vw vd : VReg} {operands : Nat → Word × Word}

/-- Settles O53: a comparison is `VecInt` of its truth value as a word. -/
theorem vectorSetResults : Obligations.VectorSetResults := by
  intro s vw vd vt rt
  simp only [← boolWord_decide]
  exact ⟨vectorWrites_vv (fun a b => boolWord (decide (a.toInt < b.toInt))) rfl rfl,
    vectorWrites_vs (fun a b => boolWord (decide (a.toInt < b.toInt))) rfl rfl,
    vectorWrites_sv (fun a b => boolWord (decide (a.toInt < b.toInt))) rfl rfl,
    vectorWrites_vv (fun a b => boolWord (decide (a.toNat < b.toNat))) rfl rfl,
    vectorWrites_vs (fun a b => boolWord (decide (a.toNat < b.toNat))) rfl rfl,
    vectorWrites_sv (fun a b => boolWord (decide (a.toNat < b.toNat))) rfl rfl,
    vectorWrites_vv (fun a b => boolWord (decide (a = b))) rfl rfl,
    vectorWrites_vs (fun a b => boolWord (decide (a = b))) rfl rfl⟩

/-! ## Flag instructions (R221) -/

/-- When the prologue lets it run, the instruction completes, and the bits of `vcond` below `vlr` say where `p` holds;
the others are kept. -/
def SetsFlags (i : Instr) (s : State) (p : Nat → Prop) : Prop :=
  VectorReady i s → Completes i s fun t => ∀ k, k < 32 →
    (t.vcond.getLsbD k = true ↔ if k < s.vlr.toNat then p k else s.vcond.getLsbD k = true)

theorem setsFlags_of_vecFlag (r : Word → Word → Prop) [DecidableRel r]
    (he : exec i s = vecFlag i i.vectorRegisters operands (fun a b => decide (r a b)) s) :
    SetsFlags i s fun k => r (operands k).1 (operands k).2 := by
  intro h
  rw [vecFlag, vectorPrologue_of_ready s i _ _ h.usable h.present h.length] at he
  refine completes_of_advance he rfl rfl fun k hk => ?_
  rw [State.vcond_advance, State.getLsbD_putVcond s _ _ k hk]
  split
  · exact decide_eq_true_iff
  · exact Iff.rfl

/-- Settles O54: each flag instruction puts the truth value of its comparison. -/
theorem vectorFlagResults : Obligations.VectorFlagResults := fun s vd vt rt =>
  ⟨setsFlags_of_vecFlag (operands := s.operandsVV vd vt) (fun a b => a.toInt < b.toInt) rfl,
    setsFlags_of_vecFlag (operands := s.operandsVS vd rt) (fun a b => a.toInt < b.toInt) rfl,
    setsFlags_of_vecFlag (operands := s.operandsSV rt vd) (fun a b => a.toInt < b.toInt) rfl,
    setsFlags_of_vecFlag (operands := s.operandsVV vd vt) (fun a b => a.toNat < b.toNat) rfl,
    setsFlags_of_vecFlag (operands := s.operandsVS vd rt) (fun a b => a.toNat < b.toNat) rfl,
    setsFlags_of_vecFlag (operands := s.operandsSV rt vd) (fun a b => a.toNat < b.toNat) rfl,
    setsFlags_of_vecFlag (operands := s.operandsVV vd vt) (fun a b => a = b) rfl,
    setsFlags_of_vecFlag (operands := s.operandsVS vd rt) (fun a b => a = b) rfl⟩

/-! ## Conditional moves (R223) -/

/-- When the prologue lets it run, the instruction completes, and the elements of `vw` below `vlr` whose element of
`vd`, taken as signed, meets `p` receive `value`; the others are kept. -/
def MovesWhere (i : Instr) (s : State) (vw vd : VReg) (p : Int → Prop) (value : Nat → Word) : Prop :=
  VectorReady i s → Completes i s fun t => ∀ k, k < 32 →
    (k < s.vlr.toNat → p (s.v vd k).toInt → t.v vw k = if vw = 0 then 0 else value k) ∧
    (¬ (k < s.vlr.toNat ∧ p (s.v vd k).toInt) → t.v vw k = s.v vw k)

/-- A conditional move whose test of a word is the condition `p` on its signed value. -/
theorem movesWhere_of_vecMove {p : Int → Prop} {test : Word → Bool}
    (he : exec i s = vecMove i i.vectorRegisters vw operands test s) (hd : ∀ k, (operands k).1 = s.v vd k)
    (ht : ∀ a : Word, test a = true ↔ p a.toInt) : MovesWhere i s vw vd p fun k => (operands k).2 := by
  intro h
  rw [vecMove, vectorPrologue_of_ready s i _ _ h.usable h.present h.length] at he
  refine completes_of_advance he rfl rfl fun k hk => ⟨fun hn hp => ?_, fun hnp => ?_⟩
  · have hm : test (operands k).1 = true := (ht _).2 (by rwa [hd])
    rw [State.v_advance, State.v_setVWhere s vw vw _ _ k hk]
    simp only [hn, hm, decide_true, Bool.and_self, and_self, if_true]
  · refine State.v_setVWhere_of_not s vw vw _ _ (Bool.eq_false_iff.2 fun hm => hnp ?_)
    rwa [Bool.and_eq_true, decide_eq_true_iff, ht, hd] at hm

theorem beq_zero_iff_toInt (a : Word) : (a == 0) = true ↔ a.toInt = 0 :=
  beq_iff_eq.trans (BitVec.toInt_inj (y := 0#32)).symm

theorem bne_zero_iff_toInt (a : Word) : (a != 0) = true ↔ a.toInt ≠ 0 :=
  bne_iff_ne.trans (BitVec.toInt_ne (y := 0#32)).symm

theorem movesWhere_vv (p : Int → Prop) {vt : VReg} {test : Word → Bool} (ht : ∀ a, test a = true ↔ p a.toInt)
    (he : exec i s = vecMove i i.vectorRegisters vw (s.operandsVV vd vt) test s) :
    MovesWhere i s vw vd p (s.v vt) :=
  movesWhere_of_vecMove he (fun _ => rfl) ht

theorem movesWhere_vs (p : Int → Prop) {rt : Reg} {test : Word → Bool} (ht : ∀ a, test a = true ↔ p a.toInt)
    (he : exec i s = vecMove i i.vectorRegisters vw (s.operandsVS vd rt) test s) :
    MovesWhere i s vw vd p fun _ => s.x rt :=
  movesWhere_of_vecMove he (fun _ => rfl) ht

/-- Settles O55: each conditional move tests the condition of the statement, which for `eqz` and `nez` the model reads
off the word itself. -/
theorem conditionalMoves : Obligations.ConditionalMoves := fun _ _ _ _ _ =>
  ⟨movesWhere_vv (· ≠ 0) bne_zero_iff_toInt rfl, movesWhere_vv (· ≥ 0) (fun _ => decide_eq_true_iff) rfl,
    movesWhere_vv (· ≤ 0) (fun _ => decide_eq_true_iff) rfl, movesWhere_vv (· = 0) beq_zero_iff_toInt rfl,
    movesWhere_vv (· < 0) (fun _ => decide_eq_true_iff) rfl, movesWhere_vv (· > 0) (fun _ => decide_eq_true_iff) rfl,
    movesWhere_vs (· ≠ 0) bne_zero_iff_toInt rfl, movesWhere_vs (· ≥ 0) (fun _ => decide_eq_true_iff) rfl,
    movesWhere_vs (· ≤ 0) (fun _ => decide_eq_true_iff) rfl, movesWhere_vs (· = 0) beq_zero_iff_toInt rfl,
    movesWhere_vs (· < 0) (fun _ => decide_eq_true_iff) rfl, movesWhere_vs (· > 0) (fun _ => decide_eq_true_iff) rfl⟩

/-! ## Register 0 as the condition vector (R224) -/

theorem Completes.imp {post post' : State → Prop} (h : Completes i s post) (hp : ∀ t, post t → post' t) :
    Completes i s post' := by
  obtain ⟨t, he, ht, ha, hu, hpost⟩ := h
  exact ⟨t, he, ht, ha, hu, hp t hpost⟩

theorem toInt_v_zero (s : State) (k : Nat) : (s.v 0 k).toInt = 0 :=
  (congrArg BitVec.toInt (State.v_zero s k)).trans BitVec.toInt_zero

theorem ite_zero_v (s : State) (vw : VReg) (k : Nat) : (if vw = 0 then 0 else s.v vw k) = s.v vw k := by
  split
  case isTrue hz => exact hz ▸ (State.v_zero s k).symm
  case isFalse => rfl

/-- A condition that zero meets holds of every element of register 0. -/
theorem vectorWrites_of_movesWhere_zero (p : Int → Prop) {value : Nat → Word} (h : MovesWhere i s vw 0 p value)
    (hp : p 0) : VectorWrites i s vw value := by
  refine fun hr => (h hr).imp fun t ht k hk => ?_
  obtain ⟨hmoved, hkept⟩ := ht k hk
  rw [toInt_v_zero] at hmoved hkept
  by_cases hn : k < s.vlr.toNat
  · rw [hmoved hn hp, if_pos hn]
  · rw [hkept fun hm => hn hm.1, if_neg hn, ite_zero_v]

/-- A condition that zero does not meet holds of no element of register 0. -/
theorem vectorWrites_kept_of_movesWhere_zero (p : Int → Prop) {value : Nat → Word}
    (h : MovesWhere i s vw 0 p value) (hp : ¬ p 0) : VectorWrites i s vw fun k => s.v vw k := by
  refine fun hr => (h hr).imp fun t ht k hk => ?_
  have hkept := (ht k hk).2
  rw [toInt_v_zero] at hkept
  rw [hkept fun hm => hp hm.2, ite_self, ite_zero_v]

/-- Settles O56: the conditional moves of O55 with register 0 as their condition vector. -/
theorem unconditionalMoves : Obligations.UnconditionalMoves := by
  intro s vw vt rt
  obtain ⟨nezVV, gezVV, lezVV, eqzVV, ltzVV, gtzVV, nezVS, gezVS, lezVS, eqzVS, ltzVS, gtzVS⟩ :=
    conditionalMoves s vw 0 vt rt
  exact ⟨vectorWrites_of_movesWhere_zero (· = 0) eqzVV rfl, vectorWrites_of_movesWhere_zero (· = 0) eqzVS rfl,
    vectorWrites_of_movesWhere_zero (· ≥ 0) gezVV (le_refl 0), vectorWrites_of_movesWhere_zero (· ≥ 0) gezVS (le_refl 0),
    vectorWrites_of_movesWhere_zero (· ≤ 0) lezVV (le_refl 0), vectorWrites_of_movesWhere_zero (· ≤ 0) lezVS (le_refl 0),
    vectorWrites_kept_of_movesWhere_zero (· ≠ 0) nezVV (not_not_intro rfl),
    vectorWrites_kept_of_movesWhere_zero (· ≠ 0) nezVS (not_not_intro rfl),
    vectorWrites_kept_of_movesWhere_zero (· < 0) ltzVV (lt_irrefl 0),
    vectorWrites_kept_of_movesWhere_zero (· < 0) ltzVS (lt_irrefl 0),
    vectorWrites_kept_of_movesWhere_zero (· > 0) gtzVV (lt_irrefl 0),
    vectorWrites_kept_of_movesWhere_zero (· > 0) gtzVS (lt_irrefl 0)⟩

end Sys2Proof.Machine
end

section
/-! PROOFS. The fixed-point pipeline as integer arithmetic (O58): the exact value, its rounding for each combination of
the rounding bits, and the clipper. -/

namespace Sys2Proof.Machine

variable {f : FxFields}

/-! ## The fields of a configuration word (R261) -/

theorem sham_fxFields (cfg : Word) : (fxFields cfg).sham = cfg.toNat % 32 := by
  simp [fxFields]

theorem toNat_clipam_fxFields (cfg : Word) : (fxFields cfg).clipam.toNat = cfg.toNat / 128 % 4 := by
  simp [fxFields, Nat.shiftRight_eq_div_pow]

/-! ## The rounding bit (R266, R271) -/

theorem fxHalf_of_shlnr (hl : f.shlnr = true) : fxHalf f = 0 := by
  simp [fxHalf, hl]

theorem fxHalf_of_sham_zero (hs : f.sham = 0) : fxHalf f = 0 := by
  simp [fxHalf, hs]

theorem fxHalf_of_rounding (hl : f.shlnr = false) (hs : f.sham ≠ 0) : fxHalf f = 2 ^ (f.sham - 1) := by
  simp [fxHalf, hl, Nat.one_le_iff_ne_zero, hs]

/-- With the rounding bit on, the divisor is twice that bit. -/
theorem two_pow_sham_eq_two_mul_fxHalf (hl : f.shlnr = false) (hs : f.sham ≠ 0) : 2 ^ f.sham = 2 * fxHalf f := by
  rw [fxHalf_of_rounding hl hs, mul_pow_sub_one hs]

theorem fxHalf_nonneg (f : FxFields) : 0 ≤ fxHalf f := by
  unfold fxHalf
  split <;> positivity

/-- The rounding bit lies below every bit of a value shifted left. -/
theorem fxHalf_lt (f : FxFields) : fxHalf f < 2 ^ f.sham := by
  have hpos : (0 : Int) < 2 ^ f.sham := by positivity
  by_cases hs : f.sham = 0
  · rwa [fxHalf_of_sham_zero hs]
  cases hl : f.shlnr with
  | true => rwa [fxHalf_of_shlnr hl]
  | false =>
    have hd := two_pow_sham_eq_two_mul_fxHalf hl hs
    omega

/-! ## The value before the right shift (R266, R267, R271) -/

/-- A rounding bit added to a value shifted left does not carry out of its low 32 bits. -/
theorem toInt_trunc32_mul_two_pow_add {z h : Int} {n : Nat} (hn : n < 32) (h0 : 0 ≤ h) (h1 : h < 2 ^ n) :
    (trunc32 (z * 2 ^ n + h)).toInt = (trunc32 (z * 2 ^ n)).toInt + h := by
  have hword : (trunc32 (z * 2 ^ n)).toInt = (z * 2 ^ n).bmod (2 ^ 32) := BitVec.toInt_ofInt _
  have hlow := BitVec.le_toInt (trunc32 (z * 2 ^ n))
  have hhigh := BitVec.toInt_lt (x := trunc32 (z * 2 ^ n))
  obtain ⟨m, hm⟩ : (2 ^ n : Int) ∣ (trunc32 (z * 2 ^ n)).toInt := by
    have hd : (2 ^ n : Int) ∣ 2 ^ 32 := pow_dvd_pow 2 hn.le
    rw [hword, Int.bmod_eq_self_sub_mul_bdiv]
    exact dvd_sub (dvd_mul_left _ _) (dvd_mul_of_dvd_left (mod_cast hd) _)
  obtain ⟨c, hc⟩ : (2 ^ n : Int) ∣ 2 ^ 31 := pow_dvd_pow 2 (by omega)
  have hmc : m + 1 ≤ c := by
    have hlt : (2 ^ n : Int) * m < 2 ^ n * c := by rw [← hm, ← hc]; exact hhigh
    exact lt_of_mul_lt_mul_left hlt (by positivity)
  have htop : (trunc32 (z * 2 ^ n)).toInt + 2 ^ n ≤ 2 ^ 31 :=
    calc (trunc32 (z * 2 ^ n)).toInt + 2 ^ n = 2 ^ n * (m + 1) := by rw [hm, mul_add, mul_one]
      _ ≤ 2 ^ n * c := mul_le_mul_of_nonneg_left hmc (by positivity)
      _ = 2 ^ 31 := hc.symm
  calc (trunc32 (z * 2 ^ n + h)).toInt = (z * 2 ^ n + h).bmod (2 ^ 32) := BitVec.toInt_ofInt _
    _ = ((trunc32 (z * 2 ^ n)).toInt + h).bmod (2 ^ 32) := by rw [hword, Int.bmod_add_bmod]
    _ = (trunc32 (z * 2 ^ n)).toInt + h := Int.bmod_eq_of_le (by omega) (by omega)

/-- The exact value whose quotient by `2 ^ n` the pipeline rounds: the left shift of `A` by `n` keeps its low 32 bits
for `fxadd` and `fxsub` (R266); `fxmul` multiplies the low halves (R271). -/
def fxExact (op : FxOp) (n : Nat) (a b : Word) : Int :=
  match op with
  | .add => (trunc32 (a.toInt * 2 ^ n)).toInt + b.toInt
  | .sub => (trunc32 (a.toInt * 2 ^ n)).toInt - b.toInt
  | .mul => (a.setWidth 16).toInt * (b.setWidth 16).toInt

/-- What enters the right shift is the exact value plus the rounding bit. -/
theorem fxAddOut_eq (op : FxOp) (hs : f.sham < 32) (a b : Word) :
    fxAddOut op f a b = fxExact op f.sham a b + fxHalf f := by
  have hshl := toInt_trunc32_mul_two_pow_add (z := a.toInt) hs (fxHalf_nonneg f) (fxHalf_lt f)
  cases op with
  | add => simp only [fxAddOut, fxExact, hshl]; omega
  | sub => simp only [fxAddOut, fxExact, hshl]; omega
  | mul => rfl

/-! ## The right shift (R268) -/

/-- Rounding by jamming: the quotient by `2 ^ n`, with its lowest bit set when anything is lost. -/
def fxJam (n : Nat) (z : Int) : Int :=
  if z % 2 ^ n = 0 then z / 2 ^ n else 2 * (z / 2 ^ n / 2) + 1

theorem fxShiftRight_of_shrnr (hr : f.shrnr = true) (z : Int) : fxShiftRight f z = z / 2 ^ f.sham := by
  simp [fxShiftRight, hr]

/-- Without `shrst`, a quotient that loses nothing becomes even. -/
theorem fxShiftRight_of_not_shrst (hr : f.shrnr = false) (ht : f.shrst = false) (z : Int) :
    fxShiftRight f z =
      if f.sham ≠ 0 ∧ z % 2 ^ f.sham = 0 then 2 * (z / 2 ^ f.sham / 2) else z / 2 ^ f.sham := by
  have heven : z / 2 ^ f.sham - z / 2 ^ f.sham % 2 = 2 * (z / 2 ^ f.sham / 2) := by omega
  simp [fxShiftRight, hr, ht, heven]

/-- With `shrst`, a quotient that loses something becomes odd. -/
theorem fxShiftRight_of_shrst (hr : f.shrnr = false) (ht : f.shrst = true) (z : Int) :
    fxShiftRight f z = fxJam f.sham z := by
  have heven : z / 2 ^ f.sham - z / 2 ^ f.sham % 2 = 2 * (z / 2 ^ f.sham / 2) := by omega
  simp [fxShiftRight, fxJam, hr, ht, heven, ite_not]

/-! ## Rounding, by the bits `shlnr`, `shrnr`, `shrst` (R264, Table 9) -/

/-- The rounding bit is half of the divisor, and the adjustment breaks the tie: the nearest integer, ties to even. -/
theorem fxShiftRight_nearest_even (hl : f.shlnr = false) (hr : f.shrnr = false) (ht : f.shrst = false) (N : Int) :
    2 * |fxShiftRight f (N + fxHalf f) * 2 ^ f.sham - N| < 2 ^ f.sham ∨
    (2 * |fxShiftRight f (N + fxHalf f) * 2 ^ f.sham - N| = 2 ^ f.sham ∧ fxShiftRight f (N + fxHalf f) % 2 = 0) := by
  rw [fxShiftRight_of_not_shrst hr ht]
  by_cases hs : f.sham = 0
  · simp [hs, fxHalf_of_sham_zero hs]
  have hd := two_pow_sham_eq_two_mul_fxHalf hl hs
  have hpos : (0 : Int) < 2 ^ f.sham := by positivity
  have hdiv := Int.mul_ediv_add_emod (N + fxHalf f) (2 ^ f.sham)
  have hlow := Int.emod_nonneg (N + fxHalf f) hpos.ne'
  have hhigh := Int.emod_lt_of_pos (N + fxHalf f) hpos
  generalize (N + fxHalf f) / 2 ^ f.sham = q at *
  generalize (N + fxHalf f) % 2 ^ f.sham = m at *
  by_cases hm : m = 0
  · rw [if_pos ⟨hs, hm⟩]
    refine .inr ⟨?_, by omega⟩
    obtain hq | hq := Int.emod_two_eq_zero_or_one q
    · have herr : 2 * (q / 2) * 2 ^ f.sham - N = fxHalf f := by
        rw [show 2 * (q / 2) = q by omega]
        linarith
      rw [herr, abs_of_nonneg (by omega), hd]
    · have herr : 2 * (q / 2) * 2 ^ f.sham - N = -fxHalf f := by
        rw [show 2 * (q / 2) = q - 1 by omega, sub_mul]
        linarith
      rw [herr, abs_neg, abs_of_nonneg (by omega), hd]
  · rw [if_neg fun h => hm h.2]
    have herr : q * 2 ^ f.sham - N = fxHalf f - m := by linarith
    have habs : |fxHalf f - m| < fxHalf f := abs_lt.2 ⟨by omega, by omega⟩
    rw [herr]
    omega

/-- Neither the rounding bit nor the adjustment: toward minus infinity. -/
theorem fxShiftRight_floor (hl : f.shlnr = true) (hr : f.shrnr = true) (N : Int) :
    fxShiftRight f (N + fxHalf f) = N / 2 ^ f.sham := by
  rw [fxShiftRight_of_shrnr hr, fxHalf_of_shlnr hl, add_zero]

/-- The rounding bit without the adjustment: to the nearest, ties upward. -/
theorem fxShiftRight_nearest_up (hl : f.shlnr = false) (hr : f.shrnr = true) (N : Int) :
    fxShiftRight f (N + fxHalf f) = (2 * N + 2 ^ f.sham) / 2 ^ (f.sham + 1) := by
  rw [fxShiftRight_of_shrnr hr, pow_succ']
  by_cases hs : f.sham = 0
  · rw [fxHalf_of_sham_zero hs, hs]
    omega
  · calc (N + fxHalf f) / 2 ^ f.sham = 2 * (N + fxHalf f) / (2 * 2 ^ f.sham) :=
        (Int.mul_ediv_mul_of_pos _ _ two_pos).symm
      _ = (2 * N + 2 ^ f.sham) / (2 * 2 ^ f.sham) := by
        rw [mul_add, ← two_pow_sham_eq_two_mul_fxHalf hl hs]

theorem fxShiftRight_jam (hl : f.shlnr = true) (hr : f.shrnr = false) (ht : f.shrst = true) (N : Int) :
    fxShiftRight f (N + fxHalf f) = fxJam f.sham N := by
  rw [fxShiftRight_of_shrst hr ht, fxHalf_of_shlnr hl, add_zero]

/-- The adjustment without the rounding bit, a combination that Table 9 does not name. -/
theorem fxShiftRight_even_floor (hl : f.shlnr = true) (hr : f.shrnr = false) (ht : f.shrst = false) (N : Int) :
    fxShiftRight f (N + fxHalf f) =
      if f.sham ≠ 0 ∧ N % 2 ^ f.sham = 0 then 2 * (N / 2 ^ f.sham / 2) else N / 2 ^ f.sham := by
  rw [fxShiftRight_of_not_shrst hr ht, fxHalf_of_shlnr hl, add_zero]

/-- Jamming with the rounding bit, a combination that Table 9 does not name. -/
theorem fxShiftRight_jam_half (hl : f.shlnr = false) (hr : f.shrnr = false) (ht : f.shrst = true) (N : Int) :
    fxShiftRight f (N + fxHalf f) = if f.sham = 0 then N else fxJam f.sham (N + 2 ^ (f.sham - 1)) := by
  rw [fxShiftRight_of_shrst hr ht]
  split
  case isTrue hs => simp [fxHalf_of_sham_zero hs, fxJam, hs]
  case isFalse hs => rw [fxHalf_of_rounding hl hs]

/-! ## The clipper (R263, R269) -/

/-- The bound of the values that `clipam` keeps: 32, 8 or 16 bits. -/
def clipBound (clipam : Nat) : Int :=
  if clipam = 0 then 2 ^ 31 else if clipam = 1 then 2 ^ 7 else 2 ^ 15

theorem clipBound_pos (n : Nat) : 0 < clipBound n := by
  unfold clipBound
  split_ifs <;> norm_num

theorem clipRange_eq (c : BitVec 2) : clipRange c = (-clipBound c.toNat, clipBound c.toNat - 1) := by
  revert c
  decide

/-- Clipping replaces a value out of range by the nearer end of the range, and says so. -/
theorem clip_eq (c : BitVec 2) (z : Int) :
    clip c z = (max (-clipBound c.toNat) (min z (clipBound c.toNat - 1)),
      decide (z < -clipBound c.toNat ∨ clipBound c.toNat - 1 < z)) := by
  have hpos := clipBound_pos c.toNat
  simp only [clip, clipRange_eq]
  split_ifs with hlow hhigh
  · rw [max_eq_left ((min_le_left _ _).trans hlow.le), decide_eq_true (.inl hlow)]
  · rw [min_eq_right hhigh.le, max_eq_right (by omega), decide_eq_true (.inr hhigh)]
  · rw [min_eq_left (not_lt.1 hhigh), max_eq_right (not_lt.1 hlow), decide_eq_false (not_or.2 ⟨hlow, hhigh⟩)]

theorem fxFinish_eq (f : FxFields) (z : Int) :
    fxFinish f z = ⟨true,
      trunc32 (max (-clipBound f.clipam.toNat) (min (fxShiftRight f z) (clipBound f.clipam.toNat - 1))),
      decide (fxShiftRight f z < -clipBound f.clipam.toNat ∨ clipBound f.clipam.toNat - 1 < fxShiftRight f z)⟩ := by
  rw [fxFinish, clip_eq]

/-- Settles O58: the value before the right shift is the exact value plus the rounding bit, and one lemma says what the
right shift makes of it for each combination of the rounding bits. -/
theorem fixedPointRounding : Obligations.FixedPointRounding := by
  intro op cfg a b
  have hs : (fxFields cfg).sham < 32 := by
    rw [sham_fxFields]
    exact Nat.mod_lt _ (by decide)
  rw [fxArch, fxAddOut_eq op hs, fxFinish_eq, ← sham_fxFields, ← toNat_clipam_fxFields]
  exact ⟨_, ⟨fun hl hr ht => fxShiftRight_nearest_even hl hr ht _, fun hl hr => fxShiftRight_floor hl hr _,
    fun hl hr => fxShiftRight_nearest_up hl hr _, fun hl hr ht => fxShiftRight_jam hl hr ht _,
    fun hl hr ht => fxShiftRight_even_floor hl hr ht _, fun hl hr ht => fxShiftRight_jam_half hl hr ht _⟩, rfl⟩

end Sys2Proof.Machine
end

section
/-! PROOFS. The fixed-point instructions: what they write with an architected configuration word (O57), and which
configuration words they refuse (O60). -/

namespace Sys2Proof.Machine

variable {s : State} {i : Instr} {vw : VReg} {rd : Reg} {operands : Nat → Word × Word} {op : FxOp}

/-! ## The written elements and saturation bits (R269, R275) -/

/-- The elements below `vlr` written, and the bits of `vsat` set, as `out` says for each element. -/
def State.fxWritten (s : State) (vw : VReg) (out : Nat → FxOut) : State :=
  (s.setVWhere vw (fun k => decide (k < s.vlr.toNat) && (out k).write) fun k => (out k).value).orVsat s.vlr.toNat
    fun k => (out k).flag

theorem State.v_fxWritten_of_le (s : State) (vw : VReg) (out : Nat → FxOut) {k : Nat} (hk : s.vlr.toNat ≤ k) :
    (s.fxWritten vw out).v vw k = s.v vw k :=
  State.v_setVWhere_of_not s vw vw _ _ (by rw [decide_eq_false (by omega), Bool.false_and])

theorem State.elementsAre_fxWritten (s : State) (vw : VReg) (out : Nat → FxOut) (hw : ∀ k, (out k).write = true) :
    ElementsAre s (s.fxWritten vw out) vw fun k => (out k).value := by
  intro k hk
  simp [State.fxWritten, State.v_setVWhere s vw vw _ _ k hk, hw]

theorem State.getLsbD_vsat_fxWritten (s : State) (vw : VReg) (out : Nat → FxOut) {k : Nat} (hk : k < 32) :
    (s.fxWritten vw out).vsat.getLsbD k = true ↔
      s.vsat.getLsbD k = true ∨ (k < s.vlr.toNat ∧ (out k).flag = true) := by
  rw [State.fxWritten, State.getLsbD_orVsat _ _ _ _ hk, State.vsat_setVWhere]
  simp only [Bool.or_eq_true, Bool.and_eq_true, decide_eq_true_eq]

/-! ## How a fixed-point instruction ends (R275, R485) -/

/-- A configuration word that is examined and refused stops the instruction. -/
theorem refused_of_vecFixed (he : exec i s = vecFixed i i.vectorRegisters vw rd operands op s) (h : VectorReady i s)
    (hn : s.vlr ≠ 0) {r : Refusal} (hr : fxRefusal s.cfg op (s.x rd) = some r) : exec i s = .refused r := by
  obtain ⟨r', -, hr', hx⟩ | ⟨hn' | hr', -⟩ :=
    vecFixed_of_ready i i.vectorRegisters vw rd operands op s h.usable h.present h.length
  · rw [he, hx, Option.some.inj (hr'.symm.trans hr)]
  · exact absurd (BitVec.eq_of_toNat_eq hn') hn
  · cases hr'.symm.trans hr

/-- A configuration word that is not examined, or not refused, lets the instruction complete, with the elements and
the saturation bits of `fxElement`. -/
theorem completes_of_vecFixed (he : exec i s = vecFixed i i.vectorRegisters vw rd operands op s) (h : VectorReady i s)
    (hr : s.vlr = 0 ∨ fxRefusal s.cfg op (s.x rd) = none) :
    Completes i s fun t =>
      (∀ q k, t.v q k = (s.fxWritten vw fun k => s.fxElement op (s.x rd) k (operands k)).v q k) ∧
      t.vsat = (s.fxWritten vw fun k => s.fxElement op (s.x rd) k (operands k)).vsat := by
  obtain ⟨r, hn, hr', -⟩ | ⟨-, hx⟩ :=
    vecFixed_of_ready i i.vectorRegisters vw rd operands op s h.usable h.present h.length
  · obtain hz | hr := hr
    · exact absurd (congrArg BitVec.toNat hz) hn
    · cases hr.symm.trans hr'
  · exact completes_of_advance (he.trans hx) rfl rfl ⟨fun _ _ => rfl, rfl⟩

/-! ## The architected pipeline (R263, R270, R272) -/

/-- The configuration words of the architected pipeline: no unused bit, and `clipam` not `11` unless `11` clips to 16
bits (R262, R263). -/
def ArchitectedWord (c : Config) (cfg : Word) : Prop :=
  cfg &&& fxUnusedBits = 0 ∧ (cfg.extractLsb' 7 2 ≠ 0b11#2 ∨ c.clipam3 = .clip16)

theorem fxMode_of_architectedWord {c : Config} {cfg : Word} (h : ArchitectedWord c cfg) :
    fxMode c cfg = .architected := by
  obtain ⟨hu, hc⟩ := h
  rw [fxMode, if_pos hu, if_neg]
  rintro ⟨h3, hclip⟩
  exact hc.elim (· h3) hclip

theorem fxRefusal_of_architectedWord {c : Config} {cfg : Word} (op : FxOp) (h : ArchitectedWord c cfg) :
    fxRefusal c op cfg = none := by
  obtain ⟨hu, hc⟩ := h
  rw [fxRefusal_of_zero c op cfg hu, if_neg]
  rintro ⟨h3, hclip⟩
  obtain hc | hc := hc
  · exact hc h3
  · cases hclip.symm.trans hc

theorem fxElement_of_architectedWord (h : ArchitectedWord s.cfg (s.x rd)) (op : FxOp) (k : Nat) (ab : Word × Word) :
    s.fxElement op (s.x rd) k ab = fxArch op (s.x rd) ab.1 ab.2 := by
  rw [State.fxElement, fxMode_of_architectedWord h]

/-- The T0 reading that swaps the operands of `fxmul.sv` does not touch the architected pipeline (R306). -/
theorem operandsFxmulSV_of_architectedWord (h : ArchitectedWord s.cfg (s.x rd)) (rt : Reg) (vd : VReg) (k : Nat) :
    s.operandsFxmulSV rt vd rd k = (s.x rt, s.v vd k) := by
  rw [State.operandsFxmulSV, fxMode_of_architectedWord h, if_neg fun hm => nomatch hm.1]
  rfl

/-- When the prologue lets it run and the configuration word is architected, the instruction completes with the
elements and the saturation bits of `fxArch`. -/
def EndsArchitected (i : Instr) (s : State) (vw : VReg) (rd : Reg) (op : FxOp) (a b : Nat → Word) : Prop :=
  VectorReady i s → s.x rd &&& 0xFFFFF060 = 0 →
  ((s.x rd).extractLsb' 7 2 ≠ 0b11#2 ∨ s.cfg.clipam3 = .clip16) →
  Completes i s fun t =>
    (ElementsAre s t vw fun k => (fxArch op (s.x rd) (a k) (b k)).value) ∧
    ∀ k, k < 32 → (t.vsat.getLsbD k = true ↔ s.vsat.getLsbD k = true ∨
      (k < s.vlr.toNat ∧ (fxArch op (s.x rd) (a k) (b k)).flag = true))

theorem endsArchitected_of_vecFixed {a b : Nat → Word}
    (he : exec i s = vecFixed i i.vectorRegisters vw rd operands op s)
    (ho : ArchitectedWord s.cfg (s.x rd) → ∀ k, operands k = (a k, b k)) : EndsArchitected i s vw rd op a b := by
  intro h hu hc
  have hw : ArchitectedWord s.cfg (s.x rd) := ⟨hu, hc⟩
  refine (completes_of_vecFixed he h (.inr (fxRefusal_of_architectedWord op hw))).imp fun t ⟨hv, hsat⟩ => ?_
  simp only [fxElement_of_architectedWord hw, ho hw] at hv hsat
  refine ⟨fun k hk => ?_, fun k hk => ?_⟩
  · rw [hv]
    exact State.elementsAre_fxWritten s vw _ (fun _ => rfl) k hk
  · rw [hsat]
    exact State.getLsbD_vsat_fxWritten s vw _ hk

/-- Settles O57: the nine instructions are one operation with its operand form. -/
theorem fixedPointResults : Obligations.FixedPointResults := fun s _ vd vt rt rd =>
  ⟨endsArchitected_of_vecFixed (operands := s.operandsVV vd vt) rfl fun _ _ => rfl,
    endsArchitected_of_vecFixed (operands := s.operandsVS vd rt) rfl fun _ _ => rfl,
    endsArchitected_of_vecFixed (operands := s.operandsSV rt vd) rfl fun _ _ => rfl,
    endsArchitected_of_vecFixed (operands := s.operandsVV vd vt) rfl fun _ _ => rfl,
    endsArchitected_of_vecFixed (operands := s.operandsVS vd rt) rfl fun _ _ => rfl,
    endsArchitected_of_vecFixed (operands := s.operandsSV rt vd) rfl fun _ _ => rfl,
    endsArchitected_of_vecFixed (operands := s.operandsVV vd vt) rfl fun _ _ => rfl,
    endsArchitected_of_vecFixed (operands := s.operandsVS vd rt) rfl fun _ _ => rfl,
    endsArchitected_of_vecFixed (operands := s.operandsFxmulSV rt vd rd) rfl
      fun hw => operandsFxmulSV_of_architectedWord hw rt vd⟩

/-! ## Refused configuration words (R262, R263, R312, R485) -/

/-- The instruction completes, keeps the elements and the bits of `vsat` from `vlr` on, and clears no bit of `vsat`. -/
def FxGoesOn (i : Instr) (s : State) (vw : VReg) : Prop :=
  Completes i s fun t =>
    (∀ k, s.vlr.toNat ≤ k → t.v vw k = s.v vw k) ∧
    ∀ k, k < 32 → (s.vsat.getLsbD k = true → t.vsat.getLsbD k = true) ∧
      (s.vlr.toNat ≤ k → t.vsat.getLsbD k = s.vsat.getLsbD k)

theorem fxGoesOn_of_vecFixed (he : exec i s = vecFixed i i.vectorRegisters vw rd operands op s) (h : VectorReady i s)
    (hr : s.vlr = 0 ∨ fxRefusal s.cfg op (s.x rd) = none) : FxGoesOn i s vw := by
  refine (completes_of_vecFixed he h hr).imp fun t ⟨hv, hsat⟩ =>
    ⟨fun k hk => (hv vw k).trans (State.v_fxWritten_of_le s vw _ hk), fun k hk => ?_⟩
  rw [hsat]
  have hbit := State.getLsbD_vsat_fxWritten s vw (fun k => s.fxElement op (s.x rd) k (operands k)) hk
  refine ⟨fun hset => hbit.2 (.inl hset), fun hle => Bool.eq_iff_iff.2 (hbit.trans ⟨?_, .inl⟩)⟩
  rintro (hset | ⟨hlt, -⟩)
  · exact hset
  · omega

/-- A T0 field is set that must be zero in a multiply (R312). -/
def MustBeZeroSet (e : T0Extra) : Prop :=
  e.shlza = true ∨ e.shlv = true ∨ e.shrv = true ∨ e.lures = true

theorem t0MulIllegal_iff (e : T0Extra) : t0MulIllegal e = true ↔ MustBeZeroSet e := by
  simp only [t0MulIllegal, MustBeZeroSet, Bool.or_eq_true, or_assoc]

/-- What the configuration word makes of an instruction that the prologue lets run: refused for an unused bit, for
`clipam = 11`, for a T0 field that must be zero where `mul` holds, and going on otherwise. -/
def FxEnds (s : State) (vw : VReg) (rd : Reg) (mul : Prop) (i : Instr) : Prop :=
  VectorReady i s →
    (s.vlr = 0 → FxGoesOn i s vw) ∧
    (s.vlr ≠ 0 → s.x rd &&& fxUnusedBits ≠ 0 → s.cfg.t0CfgBits = .refuse →
      exec i s = .refused .unusedConfigurationBits) ∧
    (s.vlr ≠ 0 → ¬ s.x rd &&& fxUnusedBits ≠ 0 → (s.x rd).extractLsb' 7 2 = 0b11#2 →
      s.cfg.clipam3 = .refuse → exec i s = .refused .clipAmount3) ∧
    (s.vlr ≠ 0 → s.x rd &&& fxUnusedBits ≠ 0 → s.cfg.t0CfgBits = .honoured → mul →
      MustBeZeroSet (Config.t0Extra (s.x rd)) → exec i s = .refused .t0FieldMustBeZero) ∧
    (s.x rd &&& fxUnusedBits ≠ 0 → s.cfg.t0CfgBits = .honoured →
      ¬ (mul ∧ MustBeZeroSet (Config.t0Extra (s.x rd))) → FxGoesOn i s vw) ∧
    (s.x rd &&& fxUnusedBits ≠ 0 → s.cfg.t0CfgBits = .unpredictable → FxGoesOn i s vw) ∧
    (¬ s.x rd &&& fxUnusedBits ≠ 0 → ¬ (s.x rd).extractLsb' 7 2 = 0b11#2 ∨ s.cfg.clipam3 ≠ .refuse →
      FxGoesOn i s vw)

theorem fxEnds_of_vecFixed {mul : Prop} (hm : op = .mul ↔ mul)
    (he : exec i s = vecFixed i i.vectorRegisters vw rd operands op s) : FxEnds s vw rd mul i := by
  intro h
  have hzero : ¬ s.x rd &&& fxUnusedBits ≠ 0 → fxRefusal s.cfg op (s.x rd) =
      if (s.x rd).extractLsb' 7 2 = 0b11#2 ∧ s.cfg.clipam3 = .refuse then some .clipAmount3 else none :=
    fun hu => fxRefusal_of_zero s.cfg op (s.x rd) (not_not.1 hu)
  have hset := fxRefusal_of_ne_zero s.cfg op (s.x rd)
  have hfield := and_congr hm (t0MulIllegal_iff (Config.t0Extra (s.x rd)))
  refine ⟨fun hn => fxGoesOn_of_vecFixed he h (.inl hn), fun hn hu hc => ?refusedUnused,
    fun hn hu h3 hc => ?refusedClip, fun hn hu hc hmul hz => ?refusedField,
    fun hu hc hnot => fxGoesOn_of_vecFixed he h (.inr ?honoured),
    fun hu hc => fxGoesOn_of_vecFixed he h (.inr ?unpredictable),
    fun hu hc => fxGoesOn_of_vecFixed he h (.inr ?architected)⟩
  case refusedUnused =>
    obtain ⟨hrefuse, -, -⟩ := hset hu
    exact refused_of_vecFixed he h hn (hrefuse hc)
  case refusedClip => exact refused_of_vecFixed he h hn ((hzero hu).trans (if_pos ⟨h3, hc⟩))
  case refusedField =>
    obtain ⟨-, -, hhonoured⟩ := hset hu
    exact refused_of_vecFixed he h hn ((hhonoured hc).trans (if_pos (hfield.2 ⟨hmul, hz⟩)))
  case honoured =>
    obtain ⟨-, -, hhonoured⟩ := hset hu
    exact (hhonoured hc).trans (if_neg (hfield.not.2 hnot))
  case unpredictable =>
    obtain ⟨-, hunpredictable, -⟩ := hset hu
    exact hunpredictable hc
  case architected => exact (hzero hu).trans (if_neg fun ⟨h3, hclip⟩ => hc.elim (· h3) (· hclip))

/-- Settles O60: the refusal of the configuration word, with the T0 fields that must be zero for `fxmul` only. -/
theorem fixedPointGoesOnUnlessRefused : Obligations.FixedPointGoesOnUnlessRefused := by
  intro s vw vd vt rt rd
  have hadd : FxOp.add = .mul ↔ False := iff_false_intro nofun
  have hsub : FxOp.sub = .mul ↔ False := iff_false_intro nofun
  have hmul : FxOp.mul = .mul ↔ True := iff_true_intro rfl
  simp only [List.forall_mem_cons]
  exact ⟨⟨fxEnds_of_vecFixed (operands := s.operandsVV vd vt) hadd rfl,
      fxEnds_of_vecFixed (operands := s.operandsVS vd rt) hadd rfl,
      fxEnds_of_vecFixed (operands := s.operandsSV rt vd) hadd rfl,
      fxEnds_of_vecFixed (operands := s.operandsVV vd vt) hsub rfl,
      fxEnds_of_vecFixed (operands := s.operandsVS vd rt) hsub rfl,
      fxEnds_of_vecFixed (operands := s.operandsSV rt vd) hsub rfl, List.forall_mem_nil _⟩,
    fxEnds_of_vecFixed (operands := s.operandsVV vd vt) hmul rfl,
    fxEnds_of_vecFixed (operands := s.operandsVS vd rt) hmul rfl,
    fxEnds_of_vecFixed (operands := s.operandsFxmulSV rt vd rd) hmul rfl, List.forall_mem_nil _⟩

end Sys2Proof.Machine
end

section
/-! PROOFS. The T0 pipelines with every T0-only field zero (O59): the adder is exact, the sixth stage is the architected
right shift of R268 on 33 bits, and nothing that Appendix A leaves open is reached (R292). -/

namespace Sys2Proof.Machine

variable {p : T0Readings} {f : FxFields} {e : T0Extra}

/-- The T0-only fields of an architected configuration (R292). The amount `shram` is not among them: without `sepsham`
nothing reads it (R299). -/
structure T0FieldsZero (e : T0Extra) : Prop where
  lufunc : e.lufunc = 0
  shlza : e.shlza = false
  shlv : e.shlv = false
  au : e.au = false
  bu : e.bu = false
  shrv : e.shrv = false
  sepsham : e.sepsham = false
  shrl : e.shrl = false
  lures : e.lures = false
  noclip : e.noclip = false
  wcond : e.wcond = 0

/-! ## 33-bit words as integers -/

theorem exists_eq_concat (x : BitVec 33) : ∃ (y : BitVec 32) (c : Bool), x = y.concat c :=
  ⟨_, _, BitVec.concat_extractLsb'_getLsb.symm⟩

theorem toInt_concat_ediv_two (y : BitVec 32) (c : Bool) : (y.concat c).toInt / 2 = y.toInt := by
  cases c with
  | false => simp
  | true => simp; omega

/-- Setting the lowest bit gives the odd number of the pair `2 q`, `2 q + 1`. -/
theorem toInt_or_one (x : BitVec 33) : (x ||| 1#33).toInt = 2 * (x.toInt / 2) + 1 := by
  obtain ⟨y, c, rfl⟩ := exists_eq_concat x
  rw [toInt_concat_ediv_two, ← BitVec.zero_concat_true, BitVec.concat_or_concat, BitVec.or_zero, Bool.or_true]
  simp [mul_comm]

/-- Clearing the lowest bit gives the even number of the pair `2 q`, `2 q + 1`. -/
theorem toInt_and_not_one (x : BitVec 33) : (x &&& ~~~1#33).toInt = 2 * (x.toInt / 2) := by
  obtain ⟨y, c, rfl⟩ := exists_eq_concat x
  rw [toInt_concat_ediv_two, ← BitVec.zero_concat_true, BitVec.not_concat, BitVec.concat_and_concat,
    BitVec.not_zero, BitVec.and_allOnes]
  simp [mul_comm]

/-- The bits below `n`, which the sticky bit ORs together, are the remainder by `2 ^ n` of the signed value too. -/
theorem toNat_emod_two_pow {w n : Nat} (hn : n ≤ w) (x : BitVec w) :
    ((x.toNat % 2 ^ n : Nat) : Int) = x.toInt % 2 ^ n := by
  have hd : ((2 ^ n : Nat) : Int) ∣ (2 ^ w : Nat) := mod_cast pow_dvd_pow 2 hn
  calc ((x.toNat % 2 ^ n : Nat) : Int) = (x.toNat : Int) % (2 ^ w : Nat) % (2 ^ n : Nat) := by
        rw [Int.emod_emod_of_dvd _ hd, Int.natCast_emod]
    _ = x.toInt % (2 ^ w : Nat) % (2 ^ n : Nat) := by rw [BitVec.toInt_eq_toNat_bmod, Int.bmod_emod]
    _ = x.toInt % 2 ^ n := by rw [Int.emod_emod_of_dvd _ hd, Nat.cast_pow, Nat.cast_ofNat]

/-! ## The right shift (R299, R309) -/

/-- The arithmetic right shift of the sixth stage by the constant amount is the architected one (R268). -/
theorem toInt_t0ShiftRight (hs : f.sham < 32) (x : BitVec 33) :
    (t0ShiftRight p f false false f.sham x).toInt = fxShiftRight f x.toInt := by
  have hshift : (x.sshiftRight f.sham).toInt = x.toInt / 2 ^ f.sham := by
    rw [BitVec.toInt_sshiftRight, Int.shiftRight_eq_div_pow, Nat.cast_pow, Nat.cast_ofNat]
  have hsticky : x.toNat % 2 ^ f.sham = 0 ↔ x.toInt % 2 ^ f.sham = 0 := by
    rw [← toNat_emod_two_pow (by omega) x, Int.natCast_eq_zero]
  cases hr : f.shrnr with
  | true => simp [t0ShiftRight, hr, hshift, fxShiftRight_of_shrnr hr]
  | false =>
    cases ht : f.shrst with
    | true =>
      rw [fxShiftRight_of_shrst hr ht, fxJam]
      by_cases hm : x.toInt % 2 ^ f.sham = 0
      · simp [t0ShiftRight, hr, ht, hshift, hsticky, hm]
      · have hodd : t0ShiftRight p f false false f.sham x = x.sshiftRight f.sham ||| 1#33 := by
          simp [t0ShiftRight, hr, ht, hsticky, hm]
        rw [hodd, toInt_or_one, hshift, if_neg hm]
    | false =>
      rw [fxShiftRight_of_not_shrst hr ht]
      by_cases hz : f.sham = 0
      · simp [t0ShiftRight, hr, ht, hz]
      by_cases hm : x.toInt % 2 ^ f.sham = 0
      · have heven : t0ShiftRight p f false false f.sham x = x.sshiftRight f.sham &&& ~~~1#33 := by
          simp [t0ShiftRight, hr, ht, hsticky, hz, hm]
        rw [heven, toInt_and_not_one, hshift, if_pos ⟨hz, hm⟩]
      · simp [t0ShiftRight, hr, ht, hshift, hsticky, hz, hm]

/-! ## The adder (R297, R298, R313) -/

/-- Every architected sum is a 33-bit signed number, so the adder loses nothing. -/
theorem fxAddOut_fits (op : FxOp) (hs : f.sham < 32) (a b : Word) :
    -(2 ^ 32) ≤ fxAddOut op f a b ∧ fxAddOut op f a b < 2 ^ 32 := by
  have hb := BitVec.le_toInt b
  have hb' := BitVec.toInt_lt (x := b)
  have hshl := BitVec.le_toInt (trunc32 (a.toInt * 2 ^ f.sham + fxHalf f))
  have hshl' := BitVec.toInt_lt (x := trunc32 (a.toInt * 2 ^ f.sham + fxHalf f))
  cases op with
  | add => simp only [fxAddOut]; omega
  | sub => simp only [fxAddOut]; omega
  | mul =>
    have hlow := BitVec.le_toInt_mul_toInt (x := a.setWidth 16) (y := b.setWidth 16)
    have hhigh := BitVec.toInt_mul_toInt_le (x := a.setWidth 16) (y := b.setWidth 16)
    have hhalf := fxHalf_nonneg f
    have hhalf' : fxHalf f < 2 ^ 31 := (fxHalf_lt f).trans_le (pow_le_pow_right₀ (by decide) (by omega))
    simp only [fxAddOut]
    omega

/-- The open value of a sum of more than 33 bits is not reached. -/
theorem toInt_t0Adder_fxAddOut (op : FxOp) (hs : f.sham < 32) (a b : Word) :
    (t0Adder p (fxAddOut op f a b)).toInt = fxAddOut op f a b := by
  obtain ⟨hlow, hhigh⟩ := fxAddOut_fits op hs a b
  rw [t0Adder_of_fits p _ ⟨hlow, hhigh⟩, BitVec.toInt_ofInt_eq_self (by decide) hlow hhigh]

/-! ## The two pipelines (R303, R313) -/

/-- The inputs of the adder are those of the architected sum (R295 to R298). -/
theorem T0FieldsZero.t0AddOut_eq (h : T0FieldsZero e) (sub : Bool) (a b : Word) :
    t0AddOut p sub e (t0ShlOut p f e a b) b = t0Adder p (fxAddOut (if sub then .sub else .add) f a b) := by
  rw [t0ShlOut_architected p f e a b h.shlza h.shlv]
  cases sub <;> simp [t0AddOut, h.au, h.bu, h.shlv, h.shrv, fxAddOut]

/-- The stages after the adder of either pipeline, without `shrv` and `lures`, for the adder output `x`: right shift,
clipper and write enable (R299 to R302, R309, R310). -/
def t0Finish (p : T0Readings) (f : FxFields) (e : T0Extra) (x : BitVec 33) : FxOut :=
  let clipped := t0Clipper e.noclip f.clipam (t0ShiftRight p f e.shrl false (t0ConstantAmount p f e) x) x
  { write := t0WriteEnable e.wcond x.toInt, value := clipped.1, flag := clipped.2 }

theorem T0FieldsZero.t0Finish_eq (h : T0FieldsZero e) (hs : f.sham < 32) (x : BitVec 33) :
    t0Finish p f e x = fxFinish f x.toInt := by
  simp [t0Finish, t0WriteEnable, t0Clipper, t0ConstantAmount, h.wcond, h.noclip, h.shrl, h.sepsham,
    toInt_t0ShiftRight hs, fxFinish]

theorem T0FieldsZero.t0FxAddSub_eq (h : T0FieldsZero e) (sub : Bool) (hs : f.sham < 32) (a b : Word) :
    t0FxAddSub p sub f e a b = fxFinish f (t0Adder p (fxAddOut (if sub then .sub else .add) f a b)).toInt := by
  have hlogic : t0Logic e.lufunc a b = b := by rw [h.lufunc]; rfl
  rw [← h.t0Finish_eq hs (p := p), ← h.t0AddOut_eq]
  simp [t0FxAddSub, t0Finish, t0RightAmount, hlogic, h.shrv, h.lures]

theorem T0FieldsZero.t0FxMul_eq (h : T0FieldsZero e) (hs : f.sham < 32) (a b : Word) :
    t0FxMul p f e a b = fxFinish f (t0Adder p (fxAddOut .mul f a b)).toInt := by
  rw [← h.t0Finish_eq hs (p := p)]
  simp [t0FxMul, t0Finish, t0MulOperands, fxAddOut, h.lufunc, h.au, h.bu]

/-- Settles O59: the adder is exact on the architected sums, and the stages after it are the architected ones. -/
theorem t0PipelineReducesToArchitected : Obligations.T0PipelineReducesToArchitected := by
  intro p f e a b hs hlufunc hshlza hshlv hau hbu hshrv hsepsham hshrl hlures hnoclip hwcond
  have hzero : T0FieldsZero e :=
    ⟨hlufunc, hshlza, hshlv, hau, hbu, hshrv, hsepsham, hshrl, hlures, hnoclip, hwcond⟩
  have hexact (op : FxOp) : (t0Adder p (fxAddOut op f a b)).toInt = fxAddOut op f a b :=
    toInt_t0Adder_fxAddOut op hs a b
  exact ⟨(hzero.t0FxAddSub_eq false hs a b).trans (congrArg _ (hexact .add)),
    (hzero.t0FxAddSub_eq true hs a b).trans (congrArg _ (hexact .sub)),
    (hzero.t0FxMul_eq hs a b).trans (congrArg _ (hexact .mul))⟩

end Sys2Proof.Machine
end

section
/-! PROOFS. The scalar computational instructions (47): results (O21), Integer overflow (O22), and the instructions on
`HI` and `LO` outside the hazard of R368 (O23, O24, O25). -/

namespace Sys2Proof.Machine

variable {s u : State} {i : Instr} {rd : Reg}

/-! ## Results of one register (R333, R335) -/

/-- Settles O21: the integer formulas of the statement are the bit-vector operations of the model, and each instruction
writes the result of its operation. -/
theorem scalarResults : Obligations.ScalarResults := by
  intro s rd rs rt imm sa
  have writes {i : Instr} {r : Reg} {w : Word} (he : exec i s = writeResult r w s)
      (hf : (i.footprint s).regs = [r]) : Writes i s r w := writes_of_writeResult i s r w he hf
  simp only [← toInt_signExt16, trunc32_add, trunc32_sub, BitVec.ofInt_toInt, ofNat_toNat_imm, ofNat_upper16,
    ofNat_mul_two_pow, ofNat_div_two_pow, trunc32_div_two_pow, toNat_mod_32, ← boolWord_decide]
  and_intros
  all_goals exact writes rfl rfl

/-- An instruction with an overflow test writes its exact result or raises, by the range of the exact result. -/
theorem ends_of_writeOrOverflow {z : Int}
    (he : exec i s = writeOrOverflow (!fitsSigned32 z) rd (trunc32 z) s) (hf : (i.footprint s).regs = [rd]) :
    (-(2 ^ 31) ≤ z ∧ z < 2 ^ 31 → Writes i s rd (trunc32 z)) ∧
    (¬ (-(2 ^ 31) ≤ z ∧ z < 2 ^ 31) → Raises i s .integerOverflow .none) := by
  have hfits : fitsSigned32 z = true ↔ -(2 ^ 31) ≤ z ∧ z < 2 ^ 31 := by
    simp only [fitsSigned32, Bool.and_eq_true, decide_eq_true_eq]
    omega
  rw [← hfits, Bool.not_eq_true]
  constructor <;> intro hz <;> rw [hz] at he
  · exact writes_of_writeResult i s rd _ he hf
  · exact he

/-- Settles O22: the sum of the words is the exact sum, truncated, and the model's test is that of the exact sum. -/
theorem overflowingResults : Obligations.OverflowingResults := by
  intro s rd rs rt imm fits Ends
  refine ⟨ends_of_writeOrOverflow ?_ rfl, ends_of_writeOrOverflow ?_ rfl, ends_of_writeOrOverflow ?_ rfl⟩
  · rw [trunc32_add]
    rfl
  · rw [trunc32_sub]
    rfl
  · rw [← toInt_signExt16, trunc32_add]
    rfl

/-! ## Instructions on `HI` and `LO` (R364 to R368) -/

theorem hiLoGuard_of_le (hs : 2 ≤ s.sinceHiLo) (r : Result) : hiLoGuard s r = r :=
  if_neg (Nat.not_lt.2 hs)

/-- Outside the hazard a guarded instruction completes in the state that its rule makes. -/
theorem completes_of_hiLoGuard {post : State → Prop} (hs : 2 ≤ s.sinceHiLo)
    (he : exec i s = hiLoGuard s (.next u.advance)) (ht : u.trap = s.trap) (hn : u.npc = s.npc)
    (hp : post u.advance) : Completes i s post :=
  completes_of_advance (he.trans (hiLoGuard_of_le hs _)) ht hn hp

/-- `mfhi` and `mflo` complete and write their register. -/
theorem writes_of_hiLoRead {w : Word} (he : exec i s = .next (s.setX rd w).advance.markHiLoRead) :
    Writes i s rd w :=
  ⟨_, he, rfl, ⟨rfl, rfl, rfl⟩, unchanged_of_exec he, State.x_setX_same s rd w⟩

/-- Settles O25: the moves from `HI` and `LO` write a register, those to them change one of the two. -/
theorem hiLoMoves : Obligations.HiLoMoves := fun s _ =>
  ⟨writes_of_hiLoRead rfl, writes_of_hiLoRead rfl,
    fun hs => completes_of_hiLoGuard (u := s.setHiLo _ _) hs rfl rfl rfl ⟨rfl, rfl⟩,
    fun hs => completes_of_hiLoGuard (u := s.setHiLo _ _) hs rfl rfl rfl ⟨rfl, rfl⟩⟩

/-! ## Products (R360, R361) -/

/-- The two words of a product, side by side, are the product modulo 2^64. -/
theorem trunc32_append_trunc32 (z : Int) : trunc32 (z / 2 ^ 32) ++ trunc32 z = BitVec.ofInt 64 z := by
  apply BitVec.eq_of_toNat_eq
  rw [BitVec.toNat_append, ← Nat.shiftLeft_add_eq_or_of_lt (trunc32 z).isLt, Nat.shiftLeft_eq, BitVec.toNat_ofInt,
    BitVec.toNat_ofInt, BitVec.toNat_ofInt]
  omega

/-- The unsigned product of two words fits in 64 bits. -/
theorem toNat_ofInt_toNat_mul (a b : Word) : (BitVec.ofInt 64 (a.toNat * b.toNat)).toNat = a.toNat * b.toNat := by
  have hlt : a.toNat * b.toNat < 2 ^ 64 :=
    calc a.toNat * b.toNat < 2 ^ 32 * 2 ^ 32 := Nat.mul_lt_mul'' a.isLt b.isLt
      _ = 2 ^ 64 := by norm_num
  rw [← Int.natCast_mul, BitVec.ofInt_natCast, BitVec.toNat_ofNat, Nat.mod_eq_of_lt hlt]

/-! ## Divisions (R362, R363) -/

/-- The remainder that the model computes is the one with the sign of the dividend (R362). -/
theorem sub_tdiv_mul (a b : Int) : a - a.tdiv b * b = a.tmod b := by
  rw [Int.tmod_def, mul_comm]

theorem toNat_trunc32_natCast {n : Nat} (hn : n < 2 ^ 32) : (trunc32 n).toNat = n := by
  rw [trunc32, BitVec.ofInt_natCast]
  exact Nat.mod_eq_of_lt hn

theorem trap_setQuotient (s : State) (byZero : Bool) (q r : Int) : (s.setQuotient byZero q r).trap = s.trap := by
  cases byZero <;> rfl

theorem npc_setQuotient (s : State) (byZero : Bool) (q r : Int) : (s.setQuotient byZero q r).npc = s.npc := by
  cases byZero <;> rfl

theorem sinceHiLo_setQuotient (s : State) (byZero : Bool) (q r : Int) :
    (s.setQuotient byZero q r).sinceHiLo = s.sinceHiLo := by
  cases byZero <;> rfl

/-- A division outside the hazard completes, whatever its divisor: with the free values of log 15 when it is zero, with
quotient and remainder when it is not. -/
theorem completes_of_division {post : State → Prop} {byZero : Bool} {q r : Int} (hs : 2 ≤ s.sinceHiLo)
    (he : exec i s = hiLoGuard s (.next (s.setQuotient byZero q r).advance))
    (hp : post (s.setQuotient byZero q r).advance) : Completes i s post :=
  completes_of_hiLoGuard hs he (trap_setQuotient s byZero q r) (npc_setQuotient s byZero q r) hp

/-- Settles O24: a division completes for every divisor. -/
theorem divideByZeroGoesOn : Obligations.DivideByZeroGoesOn := fun _ _ _ hs _ =>
  ⟨completes_of_division hs rfl trivial, completes_of_division hs rfl trivial⟩

/-- A division by a word that is not zero leaves its quotient in `LO` and its remainder in `HI`. -/
theorem setQuotient_of_ne_zero {b : Word} (hb : b ≠ 0) (q r : Int) :
    s.setQuotient (b == 0) q r = s.setHiLo (trunc32 r) (trunc32 q) := by
  rw [beq_false_of_ne hb]
  rfl

/-- Settles O23: the products by their two words, `div` by the remainder of truncated division, `divu` by the quotient
and remainder of natural numbers, which fit in a word. -/
theorem multiplyDivideResults : Obligations.MultiplyDivideResults := by
  intro s rs rt hs
  refine ⟨completes_of_hiLoGuard (u := s.setProduct _) hs rfl rfl rfl (trunc32_append_trunc32 _),
    completes_of_hiLoGuard (u := s.setProduct _) hs rfl rfl rfl ?_,
    fun hb => completes_of_division hs rfl ?_, fun hb => completes_of_division hs rfl ?_⟩
  · rw [State.hi_advance, State.lo_advance, State.hi_setProduct, State.lo_setProduct, trunc32_append_trunc32]
    exact toNat_ofInt_toNat_mul _ _
  · rw [setQuotient_of_ne_zero hb, sub_tdiv_mul]
    exact ⟨rfl, rfl⟩
  · have hpos : 0 < (s.x rt).toNat := Nat.pos_of_ne_zero fun h => hb (BitVec.eq_of_toNat_eq h)
    have hlt : (s.x rs).toNat % (s.x rt).toNat < (s.x rt).toNat := Nat.mod_lt _ hpos
    rw [setQuotient_of_ne_zero hb, State.hi_advance, State.lo_advance, State.hi_setHiLo, State.lo_setHiLo,
      toNat_trunc32_natCast ((Nat.div_le_self _ _).trans_lt (s.x rs).isLt),
      toNat_trunc32_natCast (hlt.trans (s.x rt).isLt)]
    exact ⟨(Nat.div_add_mod' _ _).symm, hlt⟩

end Sys2Proof.Machine
end

section
/-! PROOFS. The spacing of R368 and R503 (O26): which instructions are refused within it, and that every instruction but
`mfhi` and `mflo` counts as one when it completes. -/

namespace Sys2Proof.Machine

variable {s t u : State} {i : Instr}

/-! ## The instructions that the spacing speaks of (R368) -/

/-- Every instruction that writes `HI` or `LO` is guarded. -/
theorem exec_of_writesHiLo (s : State) (h : i.writesHiLo = true) : ∃ r, exec i s = hiLoGuard s r := by
  cases i with
  | mult | multu | div | divu | mthi | mtlo => exact ⟨_, rfl⟩
  | _ => cases h

/-- `mfhi` and `mflo` start the count. -/
theorem sinceHiLo_of_readsHiLo (h : i.readsHiLo = true) (he : exec i s = .next t) : t.sinceHiLo = 0 := by
  cases i with
  | mfhi | mflo =>
    cases he
    rfl
  | _ => cases h

/-! ## Every other instruction counts as one -/

/-- How an instruction that does not start the count leaves it: it has raised, or the count has grown by one. -/
inductive Counted (s t : State) : Prop where
  | raised (v : State) (c : Cause) (info : TrapInfo) (ht : t = v.trapped c info)
  | one (hc : t.sinceHiLo = tickHiLo s.sinceHiLo)

theorem tickHiLo_eq_min (n : Nat) : tickHiLo n = min (n + 1) 2 := by
  unfold tickHiLo
  split_ifs <;> omega

/-- An instruction that raises nothing has counted as one. -/
theorem Counted.sinceHiLo_eq (h : Counted s t) (ht : t.trap = none) : t.sinceHiLo = min (s.sinceHiLo + 1) 2 := by
  cases h with
  | raised v c info e => cases (e ▸ ht : (v.trapped c info).trap = none)
  | one hc => exact hc.trans (tickHiLo_eq_min _)

theorem counted_advance (hu : u.sinceHiLo = s.sinceHiLo) : Counted s u.advance :=
  .one (congrArg tickHiLo hu)

theorem counted_branchStep (hu : u.sinceHiLo = s.sinceHiLo) (likely taken : Bool) (a : Word) :
    Counted s (u.branchStep likely taken a) := by
  cases taken <;> cases likely <;> exact .one (congrArg tickHiLo hu)

theorem counted_of_writeOrOverflow {o : Bool} {rd : Reg} {w : Word} (h : writeOrOverflow o rd w s = .next t) :
    Counted s t := by
  cases o with
  | true =>
    cases h
    exact .raised _ _ _ rfl
  | false =>
    cases h
    exact counted_advance rfl

theorem counted_of_hiLoGuard (hu : u.sinceHiLo = s.sinceHiLo) (h : hiLoGuard s (.next u.advance) = .next t) :
    Counted s t := by
  obtain ⟨-, hn⟩ := next_of_hiLoGuard h
  cases hn
  exact counted_advance hu

theorem counted_of_condBranch {likely taken : Bool} {imm : BitVec 16}
    (h : condBranch likely taken imm s = .next t) : Counted s t := by
  obtain rfl := next_of_condBranch h
  exact counted_branchStep rfl likely taken _

theorem counted_of_condBranchLink {likely taken : Bool} {rs : Reg} {imm : BitVec 16}
    (h : condBranchLink likely taken rs imm s = .next t) : Counted s t := by
  obtain rfl := next_of_condBranchLink h
  exact counted_branchStep (State.sinceHiLo_setX s 31 _) likely taken _

theorem counted_of_jumpTo {target : Word} (hu : u.sinceHiLo = s.sinceHiLo) (h : jumpTo u target s = .next t) :
    Counted s t := by
  obtain rfl := next_of_jumpTo h
  exact .one (congrArg tickHiLo hu)

theorem counted_of_condTrap {c : Bool} (h : condTrap c s = .next t) : Counted s t := by
  cases c with
  | true =>
    cases h
    exact .raised _ _ _ rfl
  | false =>
    cases h
    exact counted_advance rfl

/-- The scalar instructions that access no memory and do not start the count. -/
theorem counted_of_scalar (hv : i.isVu = false) (hi : i.isMemory = false) (hr : i.readsHiLo = false)
    (h : exec i s = .next t) : Counted s t := by
  cases i with
  | mfhi | mflo => cases hr
  | addu | subu | and | or | xor | nor | slt | sltu | addiu | slti | sltiu | andi | ori | xori | lui | sll | srl
  | sra | sllv | srlv | srav | sync =>
    cases h
    exact counted_advance rfl
  | add | sub | addi => exact counted_of_writeOrOverflow h
  | mult | multu => exact counted_of_hiLoGuard (u := s.setProduct _) rfl h
  | mthi rs => exact counted_of_hiLoGuard (u := s.setHiLo (s.x rs) s.lo) rfl h
  | mtlo rs => exact counted_of_hiLoGuard (u := s.setHiLo s.hi (s.x rs)) rfl h
  | div | divu => exact counted_of_hiLoGuard (sinceHiLo_setQuotient s _ _ _) h
  | beq | bne | blez | bgtz | bltz | bgez | beql | bnel | blezl | bgtzl | bltzl | bgezl =>
    exact counted_of_condBranch h
  | bltzal | bgezal | bltzall | bgezall => exact counted_of_condBranchLink h
  | j | jr => exact counted_of_jumpTo (u := s) rfl h
  | jal => exact counted_of_jumpTo (u := s.setX 31 _) rfl h
  | jalr rd rs =>
    obtain rfl := next_of_execJalr h
    exact .one rfl
  | tge | tgeu | tlt | tltu | teq | tne | tgei | tgeiu | tlti | tltiu | teqi | tnei => exact counted_of_condTrap h
  | syscall | brk =>
    cases h
    exact .raised _ _ _ rfl
  | lb | lbu | lh | lhu | lw | lwl | lwr | sb | sh | sw | swl | swr | ll | sc => cases hi
  | _ => cases hv

/-- A vector access whose transfer does not touch the count. -/
theorem counted_of_vecMem {vd : VReg} {kind : AccessKind} {mode : VecMode} {size : Size}
    {tr un : Nat → State → State} (h : vecMem i vd kind mode size tr un s = .next t)
    (htr : ∀ n v, (tr n v).sinceHiLo = v.sinceHiLo) : Counted s t := by
  have hpost (v : State) : (v.postIncrement mode).sinceHiLo = v.sinceHiLo := by
    cases mode <;> rfl
  obtain ⟨c, info, e⟩ | ⟨-, info, e⟩ | ⟨-, rfl⟩ := next_of_vecMem_granted h
  · exact .raised _ _ _ e
  · exact .raised _ _ _ e
  · exact counted_advance ((hpost _).trans (htr _ _))

theorem counted_of_vectorAccess {m : VectorAccess} (hm : i.vectorAccess = some m) (h : exec i s = .next t) :
    Counted s t := by
  obtain ⟨-, ext, he⟩ | ⟨-, he⟩ := exec_of_vectorAccess i m s hm
  · exact counted_of_vecMem (he.symm.trans h) fun _ _ => rfl
  · exact counted_of_vecMem (he.symm.trans h) fun _ _ => rfl

/-- The loads and stores. -/
theorem counted_of_memoryMeaning (hm : MemoryMeaning s i) (h : exec i s = .next t) : Counted s t := by
  cases hm with
  | load size ext rt a he | store size rt a he =>
    obtain ⟨c, info, e⟩ | ⟨-, hn⟩ := next_of_scalarAccess (he ▸ h)
    · exact .raised _ _ _ e
    · cases hn
      exact counted_advance rfl
  | partialLoad lanes rt he | partialStore lanes rt he =>
    obtain ⟨-, hn⟩ := grants_of_access s t _ _ (he ▸ h)
    cases hn
    exact counted_advance rfl
  | loadLinked rt imm rs =>
    obtain ⟨c, info, e⟩ | ⟨new, w, rfl⟩ := next_of_execLl h
    · exact .raised _ _ _ e
    · exact counted_advance rfl
  | storeConditional rt imm rs =>
    obtain ⟨c, info, e⟩ | rfl | ⟨new, cells, -, rfl⟩ := next_of_execSc h
    · exact .raised _ _ _ e
    · exact counted_advance rfl
    · exact counted_advance rfl
  | vector m hm => exact counted_of_vectorAccess hm h

/-- The instructions of the vector unit. -/
theorem counted_of_vectorMeaning (hm : VectorMeaning s i) (h : exec i s = .next t) : Counted s t := by
  cases hm with
  | readControl rt cs =>
    obtain e | ⟨-, rfl⟩ | ⟨w, rfl⟩ := next_of_execCfvu h
    · exact .raised _ _ _ e
    · exact counted_advance rfl
    · exact counted_advance rfl
  | writeControl rt cs =>
    obtain e | ⟨-, rfl⟩ | ⟨-, rfl⟩ | ⟨-, rfl⟩ | ⟨-, rfl⟩ := next_of_execCtvu h
    · exact .raised _ _ _ e
    all_goals exact counted_advance rfl
  | extractVector vd vt rd =>
    obtain ⟨c, info, e⟩ | rfl | ⟨g, rfl⟩ := next_of_execVextV h
    · exact .raised _ _ _ e
    · exact counted_advance rfl
    · exact counted_advance rfl
  | insertScalar rt vd rd =>
    obtain ⟨c, info, e⟩ | hn := next_of_elementPrologue ((exec_vinsS s rt vd rd).symm.trans h)
    · exact .raised _ _ _ e
    · cases hn
      exact counted_advance rfl
  | extractScalar rt vd rd =>
    obtain ⟨c, info, e⟩ | hn := next_of_elementPrologue ((exec_vextS s rt vd rd).symm.trans h)
    · exact .raised _ _ _ e
    · cases hn
      exact counted_advance rfl
  | int _ _ _ he | intOverflow _ _ _ _ he | flag _ _ he | move _ _ _ he =>
    obtain ⟨c, info, e⟩ | hn := next_of_vectorPrologue (he ▸ h)
    · exact .raised _ _ _ e
    · cases hn
      exact counted_advance rfl
  | fixed vw rd operands op he =>
    obtain ⟨c, info, e⟩ | ⟨out, draws, rfl⟩ := next_of_vecFixed (he ▸ h)
    · exact .raised _ _ _ e
    · exact counted_advance rfl
  | access m ha => exact counted_of_vectorAccess ha h

/-- Every instruction but `mfhi` and `mflo` counts as one, or raises. -/
theorem counted_of_exec (hr : i.readsHiLo = false) (h : exec i s = .next t) : Counted s t := by
  cases hv : i.isVu with
  | true => exact counted_of_vectorMeaning (vectorMeaning_of_isVu s i hv) h
  | false =>
    cases hi : i.isMemory with
    | true => exact counted_of_memoryMeaning (memoryMeaning_of_isMemory s hi) h
    | false => exact counted_of_scalar hv hi hr h

/-- Settles O26: the guard refuses below two, `mfhi` and `mflo` start the count, and every other instruction that
completes without a trap has counted as one. -/
theorem hiLoSpacing : Obligations.HiLoSpacing := by
  intro s t i
  refine ⟨fun hw hs => ?_, fun he _ ht => ?_⟩
  · obtain ⟨r, hx⟩ := exec_of_writesHiLo s hw
    exact hx.trans (if_pos hs)
  · cases hr : i.readsHiLo with
    | true => exact sinceHiLo_of_readsHiLo hr he
    | false => exact (counted_of_exec hr he).sinceHiLo_eq ht

end Sys2Proof.Machine
end

section
/-! PROOFS. The step at an instruction that it fetches (O6), the frame of the scalar instructions without a memory
access (O17), and misaligned scalar accesses (O29). -/

namespace Sys2Proof.Machine

variable {s t : State} {i : Instr}

/-- A step at the encoding of an instruction runs it. -/
theorem step_eq_exec (h : Fetches s (encode i)) : step s = exec i s := by
  rw [step_of_fetches h, decodeWord_encode, runDecoded]

/-- Settles O6: the fetched word decodes to the instruction that it encodes. -/
theorem stepRunsDecoded : Obligations.StepRunsDecoded := fun _ _ => step_eq_exec

/-- Only loads and stores have bytes in their footprint. -/
theorem footprint_bytes_of_not_isMemory (s : State) (h : i.isMemory = false) : (i.footprint s).bytes = [] := by
  cases i with
  | lbaiV | lhaiV | lwaiV | lbuaiV | lhuaiV | lbxV | lhxV | lwxV | lbuxV | lhuxV | lbstV | lhstV | lwstV | lbustV
  | lhustV | sbaiV | shaiV | swaiV | sbxV | shxV | swxV | sbstV | shstV | swstV | lb | lbu | lh | lhu | lw | lwl
  | lwr | sb | sh | sw | swl | swr | ll | sc => cases h
  | _ => rfl

/-- Settles O17, from the frame of every instruction. -/
theorem scalarComputeFrame : Obligations.ScalarComputeFrame := fun s _ _ _ hi h =>
  ⟨footprint_bytes_of_not_isMemory s hi, unchanged_of_exec h⟩

/-! ## Misaligned scalar accesses (R391, R455) -/

/-- The Address error of a load or of a store (R455). -/
def AccessKind.addressError : AccessKind → Cause
  | .read => .addressErrorLoad
  | .write => .addressErrorStore

theorem raises_of_misaligned {kind : AccessKind} {size : Size} {a : Word} {k : State → Result}
    (he : exec i s = scalarAccess kind size a k s) (ha : a.toNat % size.bytes ≠ 0) :
    Raises i s kind.addressError (.address a) := by
  have hn : ¬ aligned size a = true := by simpa [aligned] using ha
  refine he.trans ?_
  cases kind with
  | read | write => exact if_neg hn

/-- An `sc` tests its address before its link. -/
theorem execSc_of_misaligned {rt rs : Reg} {imm : BitVec 16} (ha : (s.scalarAddr rs imm).toNat % 4 ≠ 0) :
    execSc rt imm rs s = s.raise .addressErrorStore (.address (s.scalarAddr rs imm)) := by
  have hn : (!aligned .word (s.scalarAddr rs imm)) = true := by simpa [aligned, Size.bytes] using ha
  rw [execSc, if_pos hn]

/-- Settles O29: each but `sc` is one access of its kind and size. -/
theorem misalignedScalarAccessTraps : Obligations.MisalignedScalarAccessTraps := by
  intro s rt rs imm
  rw [trunc32_add_imm]
  intro a
  have load {i : Instr} {size : Size} {k : State → Result} (he : exec i s = scalarAccess .read size a k s) :=
    raises_of_misaligned he
  have store {i : Instr} {size : Size} {k : State → Result} (he : exec i s = scalarAccess .write size a k s) :=
    raises_of_misaligned he
  exact ⟨fun ha => ⟨load rfl ha, load rfl ha, store rfl ha⟩,
    fun ha => ⟨load rfl ha, load rfl ha, store rfl ha, execSc_of_misaligned ha⟩⟩

end Sys2Proof.Machine
end

section
/-! PROOFS. The conditional traps, `syscall` and `break` (O38). -/

namespace Sys2Proof.Machine

variable {s : State} {i : Instr}

/-- A conditional trap raises Trap when its comparison holds, and otherwise completes. -/
theorem traps_of_condTrap {c : Bool} {p : Prop} (he : exec i s = condTrap c s) (hc : c = true ↔ p) :
    (p → Raises i s .trap .none) ∧ (¬ p → Completes i s fun _ => True) := by
  refine ⟨fun h => ?_, fun h => ?_⟩
  · rw [hc.2 h] at he
    exact he
  · rw [Bool.eq_false_iff.2 (mt hc.1 h)] at he
    exact completes_of_advance he rfl rfl trivial

theorem beq_iff_toInt_eq (a b : Word) : (a == b) = true ↔ a.toInt = b.toInt :=
  beq_iff_eq.trans BitVec.toInt_inj.symm

theorem bne_iff_toInt_ne (a b : Word) : (a != b) = true ↔ a.toInt ≠ b.toInt :=
  bne_iff_ne.trans (not_congr BitVec.toInt_inj.symm)

/-- Settles O38: every comparison is one of integers. -/
theorem trapInstructions : Obligations.TrapInstructions := by
  intro s rs rt code code20 imm
  rw [trunc32_imm, ← toInt_signExt16 imm]
  have holds {i : Instr} {p : Prop} [Decidable p] (he : exec i s = condTrap (decide p) s) :=
    traps_of_condTrap he decide_eq_true_iff
  exact ⟨holds rfl, holds rfl, holds rfl, holds rfl,
    traps_of_condTrap rfl (beq_iff_toInt_eq _ _), traps_of_condTrap rfl (bne_iff_toInt_ne _ _),
    holds rfl, holds rfl, holds rfl, holds rfl,
    traps_of_condTrap rfl (beq_iff_toInt_eq _ _), traps_of_condTrap rfl (bne_iff_toInt_ne _ _), rfl, rfl⟩

end Sys2Proof.Machine
end

section
/-! PROOFS. Branches and jumps: their targets (O35, O36), the ones that are refused (O37), and the trap of an
instruction in a delay slot (O16). -/

namespace Sys2Proof.Machine

variable {s t u : State} {i : Instr}

/-! ## Targets (R408) -/

theorem toInt_append_zero_zero (imm : BitVec 16) : (imm ++ 0#2 : BitVec 18).toInt = 4 * imm.toInt := by
  have := imm.isLt
  have h : (imm ++ 0#2 : BitVec 18).toNat = imm.toNat * 4 := by
    rw [BitVec.toNat_append]
    simp [Nat.shiftLeft_eq]
  rw [BitVec.toInt_eq_toNat_cond, BitVec.toInt_eq_toNat_cond, h]
  split_ifs <;> omega

/-- The target of a conditional branch is relative to its delay slot. -/
theorem branchTarget_eq_trunc32 (s : State) (imm : BitVec 16) :
    s.branchTarget imm = trunc32 (s.pc.toNat + 4 + 4 * imm.toInt) := by
  have h : (imm ++ 0#2 : BitVec 18).signExtend 32 = trunc32 (4 * imm.toInt) := by
    rw [← toInt_append_zero_zero, ← BitVec.toInt_signExtend_of_le (by decide : 18 ≤ 32), trunc32,
      BitVec.ofInt_toInt]
  rw [State.branchTarget, h, trunc32, trunc32, BitVec.ofInt_add, BitVec.ofInt_add, BitVec.ofInt_natCast,
    BitVec.ofNat_toNat, BitVec.setWidth_eq]
  rfl

/-- The target of a jump lies in the region of its delay slot. -/
theorem jumpTarget_eq_ofNat (s : State) (target : BitVec 26) :
    s.jumpTarget target = BitVec.ofNat 32 ((s.pc + 4).toNat / 2 ^ 28 * 2 ^ 28 + 4 * target.toNat) := by
  have hp := (s.pc + 4).isLt
  have ht := target.isLt
  apply BitVec.eq_of_toNat_eq
  rw [State.jumpTarget, BitVec.toNat_append, BitVec.toNat_append, ← Nat.shiftLeft_add_eq_or_of_lt (by simp),
    ← Nat.shiftLeft_add_eq_or_of_lt ht, BitVec.extractLsb'_toNat, BitVec.toNat_ofNat, Nat.shiftRight_eq_div_pow]
  simp only [Nat.shiftLeft_eq, BitVec.toNat_ofNat]
  omega

/-! ## What a branch does outside a delay slot (R408 to R410) -/

theorem branches_of_branchStep {linked : State} {likely taken : Bool} {target : Word}
    (hx : exec i s = .next (linked.branchStep likely taken target)) (ht : linked.trap = s.trap)
    (hn : linked.npc = s.npc) : Branches i s likely taken target := by
  refine ⟨_, hx, ?_, unchanged_of_exec hx, ?_, ?_, ?_⟩
  · cases taken <;> cases likely <;> exact ht
  · rintro rfl
    exact ⟨hn, rfl, rfl⟩
  · rintro rfl rfl
    exact ⟨hn, congrArg (· + 4) hn, rfl⟩
  · rintro rfl rfl
    exact ⟨congrArg (· + 4) hn, congrArg (· + 8) hn, rfl⟩

theorem branches_of_condBranch {likely taken : Bool} {imm : BitVec 16} (hd : s.inDelaySlot = false)
    (he : exec i s = condBranch likely taken imm s) : Branches i s likely taken (s.branchTarget imm) :=
  branches_of_branchStep (he.trans (if_neg (by simp [hd]))) rfl rfl

/-- Settles O35: every condition is a test of a register. -/
theorem conditionalBranches : Obligations.ConditionalBranches := by
  intro s rs rt imm hd
  rw [← branchTarget_eq_trunc32]
  intro target a
  have onTest {i : Instr} {likely : Bool} {p : Prop} [Decidable p]
      (he : exec i s = condBranch likely (decide p) imm s) : Branches i s likely (decide p) target :=
    branches_of_condBranch hd he
  have onNe {i : Instr} {likely : Bool} (he : exec i s = condBranch likely (s.x rs != s.x rt) imm s) :
      Branches i s likely (decide (s.x rs ≠ s.x rt)) target :=
    onTest (by simpa [bne, beq_eq_decide] using he)
  exact ⟨onTest rfl, onNe rfl, onTest rfl, onTest rfl, onTest rfl, onTest rfl, onTest rfl, onNe rfl, onTest rfl,
    onTest rfl, onTest rfl, onTest rfl⟩

@[simp] theorem x_branchStep (s : State) (likely taken : Bool) (target : Word) (q : Reg) :
    (s.branchStep likely taken target).x q = s.x q := by
  cases taken <;> cases likely <;> rfl

/-- A branch from a state whose link is written goes to its target and leaves the link address, taken or not. -/
theorem links_of_branchStep {r : Reg} {likely taken : Bool} {target : Word}
    (hx : exec i s = .next ((s.setX r s.linkAddr).branchStep likely taken target)) :
    Branches i s likely taken target ∧
      ∀ t, exec i s = .next t → t.x r = if r = 0 then 0 else s.pc + 8 := by
  refine ⟨branches_of_branchStep hx rfl rfl, fun t ht => ?_⟩
  cases hx.symm.trans ht
  rw [x_branchStep, State.x_setX_same, State.linkAddr]

theorem condBranchLink_of_ne {rs : Reg} (likely taken : Bool) (imm : BitVec 16) (hd : s.inDelaySlot = false)
    (hr : rs ≠ 31) : condBranchLink likely taken rs imm s =
      .next ((s.setX 31 s.linkAddr).branchStep likely taken (s.branchTarget imm)) := by
  rw [condBranchLink, if_neg (by simp [hd]), if_neg hr]

/-- A jump is a branch that is always taken. -/
theorem jumpTo_eq_branchStep (linked : State) (target : Word) (hd : s.inDelaySlot = false) :
    jumpTo linked target s = .next (linked.branchStep false true target) :=
  if_neg (by simp [hd])

/-- Settles O36: four conditional branches that link, and four jumps. -/
theorem linksAndJumps : Obligations.LinksAndJumps := by
  intro s rd rs imm target hd
  rw [← branchTarget_eq_trunc32, ← jumpTarget_eq_ofNat]
  intro T link J a Links
  have onTest {i : Instr} {likely taken : Bool} (he : exec i s = condBranchLink likely taken rs imm s)
      (hr : rs ≠ 31) : Branches i s likely taken T ∧ Links i 31 :=
    links_of_branchStep (he.trans (condBranchLink_of_ne likely taken imm hd hr))
  have jumps {i : Instr} {target : Word} (he : exec i s = jumpTo s target s) : Branches i s false true target :=
    branches_of_branchStep (he.trans (jumpTo_eq_branchStep s target hd)) rfl rfl
  have jumpsLinking {i : Instr} {r : Reg} {target : Word}
      (he : exec i s = jumpTo (s.setX r s.linkAddr) target s) : Branches i s false true target ∧ Links i r :=
    links_of_branchStep (he.trans (jumpTo_eq_branchStep _ target hd))
  exact ⟨onTest rfl, onTest rfl, onTest rfl, onTest rfl, jumps rfl, jumpsLinking rfl, jumps rfl,
    fun hr => jumpsLinking (if_neg hr)⟩

/-! ## Refused branches (R410, R417, R430) -/

/-- What a branch or jump does in a state: the shared operation that it runs. -/
inductive BranchMeaning (s : State) : Instr → Prop where
  | branch {i : Instr} (likely taken : Bool) (imm : BitVec 16) (he : exec i s = condBranch likely taken imm s) :
      BranchMeaning s i
  | branchLink {i : Instr} (likely taken : Bool) (rs : Reg) (imm : BitVec 16)
      (he : exec i s = condBranchLink likely taken rs imm s) : BranchMeaning s i
  | jump {i : Instr} (linked : State) (target : Word) (ht : linked.trap = s.trap) (hn : linked.npc = s.npc)
      (he : exec i s = jumpTo linked target s) : BranchMeaning s i
  | jumpLinkRegister (rd rs : Reg) : BranchMeaning s (.jalr rd rs)

theorem branchMeaning_of_isBranch (s : State) (h : i.isBranch = true) : BranchMeaning s i := by
  cases i with
  | beq | bne | blez | bgtz | bltz | bgez | beql | bnel | blezl | bgtzl | bltzl | bgezl => exact .branch _ _ _ rfl
  | bltzal | bgezal | bltzall | bgezall => exact .branchLink _ _ _ _ rfl
  | j | jr => exact .jump s _ rfl rfl rfl
  | jal => exact .jump (s.setX 31 s.linkAddr) _ rfl rfl rfl
  | jalr rd rs => exact .jumpLinkRegister rd rs
  | _ => cases h

theorem exec_jalr_same (s : State) (r : Reg) : exec (.jalr r r) s = .refused .linkRegisterIsSource := if_pos rfl

theorem exec_jalr_of_ne {rd rs : Reg} (s : State) (h : rd ≠ rs) :
    exec (.jalr rd rs) s = jumpTo (s.setX rd s.linkAddr) (s.x rs) s := if_neg h

/-- A branch or jump in a delay slot is refused; `jalr` looks at its registers first. -/
theorem exec_of_inDelaySlot (hb : i.isBranch = true) (hd : s.inDelaySlot = true) (hj : ∀ r, i ≠ .jalr r r) :
    exec i s = .refused .branchInDelaySlot := by
  cases branchMeaning_of_isBranch s hb with
  | branch _ _ _ he | branchLink _ _ _ _ he | jump _ _ _ _ he => exact he.trans (if_pos hd)
  | jumpLinkRegister rd rs =>
    have hne : rd ≠ rs := by
      rintro rfl
      exact hj rd rfl
    exact (exec_jalr_of_ne s hne).trans (if_pos hd)

theorem condBranchLink_same (likely taken : Bool) (imm : BitVec 16) (hd : s.inDelaySlot = false) :
    condBranchLink likely taken 31 imm s = .refused .linkRegisterIsSource := by
  rw [condBranchLink, if_neg (by simp [hd]), if_pos rfl]

/-- Settles O37: the delay slot, and the link register as source. -/
theorem forbiddenBranchesAreRefused : Obligations.ForbiddenBranchesAreRefused := fun s _ rd _ =>
  ⟨exec_of_inDelaySlot, exec_jalr_same s rd,
    fun hd => ⟨condBranchLink_same _ _ _ hd, condBranchLink_same _ _ _ hd, condBranchLink_same _ _ _ hd,
      condBranchLink_same _ _ _ hd⟩⟩

/-! ## Traps in a delay slot (R470) -/

/-- A branch that answers a next state ran outside a delay slot. -/
theorem inDelaySlot_of_isBranch (hb : i.isBranch = true) (h : exec i s = .next t) : s.inDelaySlot = false := by
  refine Bool.eq_false_iff.2 fun hd => ?_
  by_cases hj : ∃ r, i = .jalr r r
  · obtain ⟨r, rfl⟩ := hj
    cases (exec_jalr_same s r).symm.trans h
  · cases (exec_of_inDelaySlot hb hd (not_exists.1 hj)).symm.trans h

/-- What a trap in the delay slot needs of a branch: it has raised nothing, and the slot is the instruction after it. -/
structure BeforeSlot (s t : State) : Prop where
  trap : t.trap = s.trap
  pc : t.inDelaySlot = true → t.pc = s.npc

theorem beforeSlot_branchStep {linked : State} (ht : linked.trap = s.trap) (hn : linked.npc = s.npc)
    (likely taken : Bool) (target : Word) : BeforeSlot s (linked.branchStep likely taken target) := by
  cases taken with
  | true => exact ⟨ht, fun _ => hn⟩
  | false =>
    cases likely with
    | true => exact ⟨ht, nofun⟩
    | false => exact ⟨ht, fun _ => hn⟩

/-- A branch raises nothing, and its delay slot is the instruction after it. -/
theorem beforeSlot_of_isBranch (hb : i.isBranch = true) (h : exec i s = .next t) : BeforeSlot s t := by
  cases branchMeaning_of_isBranch s hb with
  | branch likely taken imm he =>
    obtain rfl := next_of_condBranch (he ▸ h)
    exact beforeSlot_branchStep rfl rfl likely taken _
  | branchLink likely taken rs imm he =>
    obtain rfl := next_of_condBranchLink (he ▸ h)
    exact beforeSlot_branchStep (s := s) (linked := s.setX 31 s.linkAddr) rfl rfl likely taken _
  | jump linked target ht hn he =>
    obtain rfl := next_of_jumpTo (he ▸ h)
    exact ⟨ht, fun _ => hn⟩
  | jumpLinkRegister rd rs =>
    obtain rfl := next_of_execJalr h
    exact ⟨rfl, fun _ => rfl⟩

/-- A step that traps names the instruction at `pc`, or the branch whose delay slot it is in (R470). -/
theorem precise_of_step {r : Trap} (ht : s.trap = none) (h : step s = .next t) (hr : t.trap = some r) :
    r.epc = (if s.inDelaySlot then s.pc - 4 else s.pc) ∧ r.bd = s.inDelaySlot := by
  obtain ⟨c, info, rfl⟩ | ⟨i, -, -, -, -, he⟩ := step_cases h
  · obtain ⟨-, hepc, hbd, -⟩ := precise_of_trapped rfl hr
    exact ⟨hepc, hbd⟩
  · obtain ⟨hepc, hbd, -⟩ := exceptionsArePrecise s t i r ht he hr
    exact ⟨hepc, hbd⟩

/-- Settles O16: outside a delay slot the instruction after the branch is at `pc + 4` (the invariant), and its trap
names the address 4 before it. -/
theorem delaySlotTrapNamesBranch : Obligations.DelaySlotTrapNamesBranch := by
  intro s t u i r hinv hf hb hs hd hu hr
  have he : exec i s = .next t := (step_eq_exec hf).symm.trans hs
  obtain ⟨htrap, hpc⟩ := beforeSlot_of_isBranch hb he
  obtain ⟨hepc, hbd⟩ := precise_of_step (htrap.trans hf.running) hu hr
  have hseq : s.npc = s.pc + 4 := hinv.sequential (inDelaySlot_of_isBranch hb he)
  rw [hd, if_pos rfl, hpc hd, hseq, BitVec.add_sub_cancel] at hepc
  exact ⟨hepc, hbd.trans hd⟩

end Sys2Proof.Machine
end

section
/-! PROOFS. The partial word loads and stores, byte by byte (O30). -/

namespace Sys2Proof.Machine

variable {s : State} {i : Instr} {lanes : List (Nat × Nat)} {n : Nat} {addr pos : Nat → Nat}

/-- The lanes of a partial word access, in order: lane `j < n` joins the byte at `addr j` to byte `pos j` of the
register, and neither is met twice. -/
structure LanesAre (lanes : List (Nat × Nat)) (n : Nat) (addr pos : Nat → Nat) : Prop where
  eq : lanes = (List.range n).map fun j => (addr j, pos j)
  le : n ≤ 4
  pos_lt : ∀ j, j < 4 → pos j < 4
  pos_inj : ∀ j, j < 4 → ∀ k, k < 4 → pos j = pos k → j = k
  addr_lt : ∀ j, j < n → addr j < 2 ^ 32
  addr_inj : ∀ j, j < n → ∀ k, k < n → addr j = addr k → j = k

theorem LanesAre.map_fst (h : LanesAre lanes n addr pos) : (lanes.map fun l => l.1) = (List.range n).map addr := by
  rw [h.eq, List.map_map]
  rfl

theorem LanesAre.distinct (h : LanesAre lanes n addr pos) : LanesDistinct lanes := by
  have hle := h.le
  refine ⟨fun l hl => ?_, ?_⟩
  · rw [h.eq] at hl
    obtain ⟨j, hj, rfl⟩ := List.mem_map.1 hl
    have := List.mem_range.1 hj
    exact h.pos_lt j (by omega)
  · rw [h.eq, List.map_map]
    refine List.Nodup.map_on (fun j hj k hk e => ?_) List.nodup_range
    have := List.mem_range.1 hj
    have := List.mem_range.1 hk
    exact h.pos_inj j (by omega) k (by omega) e

/-- The register after a partial load: the bytes of the lanes come from memory, the others are kept (R397, R398). -/
theorem LanesAre.getByte_mergeLanes (h : LanesAre lanes n addr pos) (m : Memory) (r : Word) {j : Nat} (hj : j < 4) :
    getByte (mergeLanes lanes m r) (pos j) = if j < n then m.read (addr j) else getByte r (pos j) := by
  have hle := h.le
  split_ifs with hn
  · have hmem : (addr j, pos j) ∈ lanes := h.eq ▸ List.mem_map.2 ⟨j, List.mem_range.2 hn, rfl⟩
    exact getByte_mergeLanes_mem lanes m r _ hmem h.distinct.lt h.distinct.nodup
  · refine getByte_mergeLanes_other lanes m r _ (h.pos_lt j hj) fun l hl e => ?_
    rw [h.eq] at hl
    obtain ⟨k, hk, rfl⟩ := List.mem_map.1 hl
    have hk := List.mem_range.1 hk
    have := h.pos_inj k (by omega) j hj e
    omega

/-- Memory after a partial store: each lane has written its byte of the register (R402, R403). -/
theorem LanesAre.read_writeAll (h : LanesAre lanes n addr pos) {m : Memory} (hm : m.wf = true) (r : Word) {j : Nat}
    (hj : j < n) : (m.writeAll (laneCells lanes r)).read (addr j) = getByte r (pos j) := by
  have hcells : laneCells lanes r = (List.range n).map fun j => (addr j, getByte r (pos j)) := by
    rw [laneCells, h.eq, List.map_map]
    rfl
  rw [hcells]
  refine Memory.read_writeAll_mem m _ (addr j, getByte r (pos j)) hm
    (List.mem_map.2 ⟨j, List.mem_range.2 hj, rfl⟩) (fun d hd => ?_) ?_
  · obtain ⟨k, hk, rfl⟩ := List.mem_map.1 hd
    exact h.addr_lt k (List.mem_range.1 hk)
  · rw [List.map_map]
    exact List.Nodup.map_on (fun j hj k hk e => h.addr_inj j (List.mem_range.1 hj) k (List.mem_range.1 hk) e)
      List.nodup_range

/-! ## The lanes of `lwl`, `swl`, `lwr`, `swr` -/

theorem lanesAre_leftLanes (e : Endian) (a : Word) :
    LanesAre (leftLanes e a) (if e = .big then 4 - a.toNat % 4 else a.toNat % 4 + 1)
      (fun j => if e = .big then a.toNat + j else a.toNat - j) fun j => 3 - j := by
  have := a.isLt
  cases e with
  | big | little =>
    simp only [reduceCtorEq, if_true, if_false]
    refine ⟨rfl, ?_, ?_, ?_, ?_, ?_⟩ <;> intros <;> omega

theorem lanesAre_rightLanes (e : Endian) (a : Word) :
    LanesAre (rightLanes e a) (if e = .big then a.toNat % 4 + 1 else 4 - a.toNat % 4)
      (fun j => if e = .big then a.toNat - j else a.toNat + j) fun j => j := by
  have := a.isLt
  cases e with
  | big | little =>
    simp only [reduceCtorEq, if_true, if_false]
    refine ⟨rfl, ?_, ?_, ?_, ?_, ?_⟩ <;> intros <;> omega

/-! ## Granted accesses -/

theorem completes_of_loadLanes {rt : Reg} {post : State → Prop} (he : exec i s = loadLanes lanes rt s)
    (hg : Grants s ⟨.scalar, .read, lanes.map fun l => l.1⟩)
    (hp : ∀ t : State, (t.x rt = if rt = 0 then 0 else mergeLanes lanes s.mem (s.x rt)) → post t) :
    Completes i s post :=
  completes_of_advance (he.trans (access_of_grants s _ _ hg)) rfl rfl (hp _ (State.x_setX_same _ rt _))

/-- A granted partial load merges the bytes of its lanes into the register. -/
theorem LanesAre.completes_load (h : LanesAre lanes n addr pos) {rt : Reg} (he : exec i s = loadLanes lanes rt s)
    (h0 : rt ≠ 0) (hg : Grants s ⟨.scalar, .read, (List.range n).map addr⟩) : Completes i s fun t =>
      ∀ j, j < 4 → getByte (t.x rt) (pos j) = if j < n then s.mem.read (addr j) else getByte (s.x rt) (pos j) := by
  refine completes_of_loadLanes he (h.map_fst ▸ hg) fun t hx j hj => ?_
  rw [hx, if_neg h0, h.getByte_mergeLanes s.mem (s.x rt) hj]

/-- A granted partial load to register 0 completes and loads nothing (R21). -/
theorem LanesAre.completes_load_zero (h : LanesAre lanes n addr pos) (he : exec i s = loadLanes lanes 0 s)
    (hg : Grants s ⟨.scalar, .read, (List.range n).map addr⟩) : Completes i s fun t => t.x 0 = 0 :=
  completes_of_loadLanes he (h.map_fst ▸ hg) fun t _ => State.x_zero t

/-- A granted partial store writes the bytes of its lanes. -/
theorem LanesAre.completes_store (h : LanesAre lanes n addr pos) {rt : Reg} (he : exec i s = storeLanes lanes rt s)
    (hm : s.mem.wf = true) (hg : Grants s ⟨.scalar, .write, (List.range n).map addr⟩) : Completes i s fun t =>
      ∀ j, j < n → t.mem.read (addr j) = getByte (s.x rt) (pos j) := by
  rw [← h.map_fst] at hg
  exact completes_of_advance (he.trans (access_of_grants s _ _ hg)) rfl rfl fun j => h.read_writeAll hm (s.x rt)

/-- Settles O30: each of the four is a partial access with its own lanes. -/
theorem partialWordAccesses : Obligations.PartialWordAccesses := by
  intro s rt rs imm
  rw [trunc32_add_imm]
  have left := lanesAre_leftLanes s.cfg.endian (s.scalarAddr rs imm)
  have right := lanesAre_rightLanes s.cfg.endian (s.scalarAddr rs imm)
  exact ⟨left.completes_load rfl, right.completes_load rfl, left.completes_store rfl, right.completes_store rfl,
    left.completes_load_zero rfl, right.completes_load_zero rfl⟩

end Sys2Proof.Machine
end

section
/-! PROOFS. The causes of a Vector operation exception (O40): the three tests of the vector unit raise it, and no other
part of an instruction does. -/

namespace Sys2Proof.Machine

variable {s t : State} {i : Instr}

/-- A result in which no Vector operation exception stands. -/
def NoVectorOperation : Result → Prop
  | .next t => ∀ r, t.trap = some r → r.cause ≠ .vectorOperation
  | .fault _ | .refused _ => True

/-! ## What raises no Vector operation -/

theorem noVectorOperation_of_trap (h : t.trap = none) : NoVectorOperation (.next t) := fun r hr => by
  rw [h] at hr
  cases hr

theorem noVectorOperation_raise {c : Cause} (info : TrapInfo) (hc : c ≠ .vectorOperation) :
    NoVectorOperation (s.raise c info) := fun r hr => by
  cases hr
  exact hc

/-- An access raises what its transfer raises. -/
theorem noVectorOperation_access {new : AccessRecord} {k : State → Result} (ht : s.trap = none)
    (hk : ∀ u : State, u.trap = none → NoVectorOperation (k u)) : NoVectorOperation (s.access new k) := by
  obtain e | e | e | ⟨-, e⟩ := access_cases s new k <;> rw [e]
  · trivial
  · trivial
  · trivial
  · exact hk _ ht

theorem noVectorOperation_scalarAccess {kind : AccessKind} {size : Size} {a : Word} {k : State → Result}
    (ht : s.trap = none) (hk : ∀ u : State, u.trap = none → NoVectorOperation (k u)) :
    NoVectorOperation (scalarAccess kind size a k s) := by
  unfold scalarAccess
  split_ifs
  · exact noVectorOperation_access ht hk
  · cases kind with
    | read | write => exact noVectorOperation_raise _ nofun

theorem noVectorOperation_scalarLoad (ht : s.trap = none) (size : Size) (ext : Extension) (rt : Reg) (a : Word) :
    NoVectorOperation (scalarLoad size ext rt a s) :=
  noVectorOperation_scalarAccess ht fun _ hu => noVectorOperation_of_trap hu

theorem noVectorOperation_scalarStore (ht : s.trap = none) (size : Size) (rt : Reg) (a : Word) :
    NoVectorOperation (scalarStore size rt a s) :=
  noVectorOperation_scalarAccess ht fun _ hu => noVectorOperation_of_trap hu

theorem noVectorOperation_loadLanes (ht : s.trap = none) (lanes : List (Nat × Nat)) (rt : Reg) :
    NoVectorOperation (loadLanes lanes rt s) :=
  noVectorOperation_access ht fun _ hu => noVectorOperation_of_trap hu

theorem noVectorOperation_storeLanes (ht : s.trap = none) (lanes : List (Nat × Nat)) (rt : Reg) :
    NoVectorOperation (storeLanes lanes rt s) :=
  noVectorOperation_access ht fun _ hu => noVectorOperation_of_trap hu

theorem noVectorOperation_execLl (ht : s.trap = none) (rt : Reg) (imm : BitVec 16) (rs : Reg) :
    NoVectorOperation (execLl rt imm rs s) :=
  noVectorOperation_scalarAccess ht fun _ hu => noVectorOperation_of_trap hu

theorem noVectorOperation_hiLoGuard {r : Result} (hr : NoVectorOperation r) : NoVectorOperation (hiLoGuard s r) := by
  unfold hiLoGuard
  split_ifs
  · trivial
  · exact hr

theorem noVectorOperation_execSc (ht : s.trap = none) (rt : Reg) (imm : BitVec 16) (rs : Reg) :
    NoVectorOperation (execSc rt imm rs s) := by
  unfold execSc
  dsimp only
  split_ifs
  · exact noVectorOperation_raise _ nofun
  · exact noVectorOperation_of_trap ht
  · trivial
  · exact noVectorOperation_access ht fun _ => noVectorOperation_of_trap

/-- A branch raises nothing. -/
theorem noVectorOperation_of_isBranch (ht : s.trap = none) (hb : i.isBranch = true) : NoVectorOperation (exec i s) := by
  cases he : exec i s with
  | next t => exact noVectorOperation_of_trap ((beforeSlot_of_isBranch hb he).trap.trans ht)
  | fault | refused => trivial

theorem noVectorOperation_writeOrOverflow (ht : s.trap = none) (o : Bool) (rd : Reg) (w : Word) :
    NoVectorOperation (writeOrOverflow o rd w s) := by
  cases o with
  | true => exact noVectorOperation_raise _ nofun
  | false => exact noVectorOperation_of_trap ht

theorem noVectorOperation_condTrap (ht : s.trap = none) (c : Bool) : NoVectorOperation (condTrap c s) := by
  cases c with
  | true => exact noVectorOperation_raise _ nofun
  | false => exact noVectorOperation_of_trap ht

/-- No scalar instruction raises Vector operation. -/
theorem noVectorOperation_of_not_isVu (ht : s.trap = none) (hv : i.isVu = false) : NoVectorOperation (exec i s) := by
  cases i with
  | addu | subu | and | or | xor | nor | slt | sltu | addiu | slti | sltiu | andi | ori | xori | lui | sll | srl
  | sra | sllv | srlv | srav | mfhi | mflo | sync => exact noVectorOperation_of_trap ht
  | add | sub | addi => exact noVectorOperation_writeOrOverflow ht _ _ _
  | mult | multu | mthi | mtlo => exact noVectorOperation_hiLoGuard (noVectorOperation_of_trap ht)
  | div | divu =>
    exact noVectorOperation_hiLoGuard (noVectorOperation_of_trap ((trap_setQuotient s _ _ _).trans ht))
  | lb | lbu | lh | lhu | lw => exact noVectorOperation_scalarLoad ht _ _ _ _
  | sb | sh | sw => exact noVectorOperation_scalarStore ht _ _ _
  | lwl | lwr => exact noVectorOperation_loadLanes ht _ _
  | swl | swr => exact noVectorOperation_storeLanes ht _ _
  | ll rt imm rs => exact noVectorOperation_execLl ht rt imm rs
  | sc rt imm rs => exact noVectorOperation_execSc ht rt imm rs
  | beq | bne | blez | bgtz | bltz | bgez | beql | bnel | blezl | bgtzl | bltzl | bgezl | bltzal | bgezal | bltzall
  | bgezall | j | jr | jal | jalr => exact noVectorOperation_of_isBranch ht rfl
  | tge | tgeu | tlt | tltu | teq | tne | tgei | tgeiu | tlti | tltiu | teqi | tnei =>
    exact noVectorOperation_condTrap ht _
  | syscall | brk => exact noVectorOperation_raise _ nofun
  | _ => cases hv

/-! ## The vector unit past its tests (R453) -/

theorem noVectorOperation_vectorPrologue {regs : List VReg} {k : Nat → Result} (hv : VectorReady i s)
    (hr : i.vectorRegisters = regs) (hk : NoVectorOperation (k s.vlr.toNat)) :
    NoVectorOperation (s.vectorPrologue i regs k) := by
  rwa [vectorPrologue_of_ready s i regs k hv.usable (hr ▸ hv.present) hv.length]

/-- `VecMem` past its prologue raises Vector address at most. -/
theorem noVectorOperation_vecMem {vd : VReg} {kind : AccessKind} {mode : VecMode} {size : Size}
    {tr un : Nat → State → State} (ht : s.trap = none) (htr : ∀ n u, (tr n u).trap = u.trap)
    (hr : i.vectorRegisters = vd :: mode.regs) (hv : VectorReady i s) :
    NoVectorOperation (vecMem i vd kind mode size tr un s) := by
  have transferred (n : Nat) : NoVectorOperation (s.vecTransfer kind mode size n (tr n)) :=
    noVectorOperation_access ht fun u hu =>
      noVectorOperation_of_trap ((trap_postIncrement _ mode).trans ((htr n u).trans hu))
  refine noVectorOperation_vectorPrologue hv hr ?_
  cases mode with
  | unit =>
    dsimp only
    split_ifs
    · trivial
    · exact transferred _
    · trivial
    · exact noVectorOperation_raise _ nofun
  | strided | indexed =>
    dsimp only
    split_ifs
    · trivial
    · exact noVectorOperation_raise _ nofun
    · exact transferred _

theorem noVectorOperation_of_vectorAccess {m : VectorAccess} (hm : i.vectorAccess = some m) (ht : s.trap = none)
    (hv : VectorReady i s) : NoVectorOperation (exec i s) := by
  have hr := vectorRegisters_of_vectorAccess hm
  obtain ⟨-, ext, he⟩ | ⟨-, he⟩ := exec_of_vectorAccess i m s hm
  · exact he ▸ noVectorOperation_vecMem ht (fun _ _ => rfl) hr hv
  · exact he ▸ noVectorOperation_vecMem ht (fun _ _ => rfl) hr hv

/-- An instruction of the vector unit that passes the prologue raises Vector operation in its own range test only. -/
theorem noVectorOperation_of_vectorReady (ht : s.trap = none) (hv : VectorReady i s) (ho : i.runsOverVlr = true)
    (hx : ∀ vd vt rd, i = .vextV vd vt rd → 0 < s.vlr.toNat →
      (s.vlr.toNat + (s.x rd).toNat % 256) % 256 ≤ 32) : NoVectorOperation (exec i s) := by
  cases vectorMeaning_of_isVu s i (isVu_of_runsOverVlr ho) with
  | readControl | writeControl | insertScalar | extractScalar => cases ho
  | extractVector vd vt rd =>
    have hw := hx vd vt rd rfl
    rw [exec_vextV_of_ready hv]
    split_ifs
    · trivial
    · exact noVectorOperation_of_trap ht
    · omega
    · trivial
    · exact noVectorOperation_of_trap ht
  | int _ _ _ he | intOverflow _ _ _ _ he | flag _ _ he | move _ _ _ he =>
    exact he ▸ noVectorOperation_vectorPrologue hv rfl (noVectorOperation_of_trap ht)
  | fixed vw rd operands op he =>
    rw [he]
    obtain ⟨r, -, -, e⟩ | ⟨-, e⟩ :=
      vecFixed_of_ready i _ vw rd operands op s hv.usable hv.present hv.length <;> rw [e]
    · trivial
    · exact noVectorOperation_of_trap ht
  | access m ha => exact noVectorOperation_of_vectorAccess ha ht hv

theorem noVectorOperation_execCfvu (ht : s.trap = none) (rt : Reg) (cs : CReg) :
    NoVectorOperation (execCfvu rt cs s) := by
  unfold execCfvu
  split_ifs
  · exact noVectorOperation_raise _ nofun
  · split
    case h_7 => trivial
    all_goals exact noVectorOperation_of_trap ht

theorem noVectorOperation_execCtvu (ht : s.trap = none) (rt : Reg) (cs : CReg) :
    NoVectorOperation (execCtvu rt cs s) := by
  unfold execCtvu
  split_ifs
  · exact noVectorOperation_raise _ nofun
  · split
    case h_1 | h_2 | h_7 => trivial
    all_goals exact noVectorOperation_of_trap ht

/-! ## The causes (R453) -/

/-- The causes of a Vector operation exception, for an instruction that passes the first two tests. -/
def VectorOperationCause (s : State) (i : Instr) : Prop :=
  (i.runsOverVlr = true ∧ 32 < s.vlr.toNat) ∨
  (∃ vd vt rd, i = .vextV vd vt rd ∧ 0 < s.vlr.toNat ∧ 32 < (s.vlr.toNat + (s.x rd).toNat) % 256) ∨
  ∃ rt vd rd, (i = .vinsS rt vd rd ∨ i = .vextS rt vd rd) ∧ 32 ≤ (s.x rd).toNat % 256

/-- Each cause raises. -/
theorem raises_of_cause (hc : s.cu2 = true) (hr : ∀ j ∈ i.vectorRegisters, j.toNat < s.cfg.nvreg)
    (h : VectorOperationCause s i) : Raises i s .vectorOperation (.word (encode i)) := by
  obtain ⟨ho, hl⟩ | ⟨vd, vt, rd, rfl, hn, hw⟩ | ⟨rt, vd, rd, rfl | rfl, hi⟩ := h
  · exact exec_of_long ho hc hr hl
  · obtain hl | hl := Nat.lt_or_ge 32 s.vlr.toNat
    · exact exec_of_long rfl hc hr hl
    · exact raises_vextV ⟨hc, hr, hl⟩ hn (by omega)
  · exact raises_of_elementPrologue (exec_vinsS s rt vd rd) hc (hr vd (List.mem_singleton_self vd)) hi
  · exact raises_of_elementPrologue (exec_vextS s rt vd rd) hc (hr vd (List.mem_singleton_self vd)) hi

/-- Nothing else raises. -/
theorem noVectorOperation_of_no_cause (ht : s.trap = none) (hc : s.cu2 = true)
    (hr : ∀ j ∈ i.vectorRegisters, j.toNat < s.cfg.nvreg) (h : ¬ VectorOperationCause s i) :
    NoVectorOperation (exec i s) := by
  cases hv : i.isVu with
  | false => exact noVectorOperation_of_not_isVu ht hv
  | true =>
    obtain ho | ⟨rt, cs, rfl⟩ | ⟨rt, cs, rfl⟩ | ⟨rt, vd, rd, rfl⟩ | ⟨rt, vd, rd, rfl⟩ := isVu_cases hv
    · have hl : s.vlr.toNat ≤ 32 := Nat.not_lt.1 fun hl => h (.inl ⟨ho, hl⟩)
      refine noVectorOperation_of_vectorReady ht ⟨hc, hr, hl⟩ ho fun vd vt rd e hn => ?_
      have hw := Nat.not_lt.1 fun hw => h (.inr (.inl ⟨vd, vt, rd, e, hn, hw⟩))
      omega
    · exact noVectorOperation_execCfvu ht rt cs
    · exact noVectorOperation_execCtvu ht rt cs
    · have hi := Nat.not_le.1 fun hi => h (.inr (.inr ⟨rt, vd, rd, .inl rfl, hi⟩))
      obtain ⟨t, he, htrap, -⟩ := completes_vinsS (rt := rt) hc (hr vd (List.mem_singleton_self vd)) hi
      exact he ▸ noVectorOperation_of_trap (htrap.trans ht)
    · have hi := Nat.not_le.1 fun hi => h (.inr (.inr ⟨rt, vd, rd, .inr rfl, hi⟩))
      obtain ⟨t, he, htrap, -⟩ := writes_vextS (rt := rt) hc (hr vd (List.mem_singleton_self vd)) hi
      exact he ▸ noVectorOperation_of_trap (htrap.trans ht)

theorem not_cause_of_vlr_zero (ho : i.runsOverVlr = true) (hl : s.vlr = 0) : ¬ VectorOperationCause s i := by
  have hz : s.vlr.toNat = 0 := by simp [hl]
  rintro (⟨-, h⟩ | ⟨vd, vt, rd, -, h, -⟩ | ⟨rt, vd, rd, rfl | rfl, -⟩)
  · omega
  · omega
  · cases ho
  · cases ho

/-- Settles O40: each cause raises, and where none holds nothing raises Vector operation. -/
theorem vectorOperationCauses : Obligations.VectorOperationCauses := by
  intro s i ht hc hr
  refine ⟨fun h => ⟨_, rfl, raises_of_cause hc hr h⟩, fun t r he htr hcause => ?_, not_cause_of_vlr_zero⟩
  by_contra h
  have hno : NoVectorOperation (exec i s) := noVectorOperation_of_no_cause ht hc hr h
  rw [he] at hno
  exact hno r htr hcause

end Sys2Proof.Machine
end
